-- ==== Sys2Proof/Word.lean ====
section
/-! DEFINITION. The word types of the machine (00_scope.md R5, R9): the 8-bit data of a bus call,
the 16-bit registers, and the 24-bit addresses of the bus. -/

namespace Sys2Proof

/-- One byte: what one bus call moves (20_memory.md R60). -/
abbrev Byte := BitVec 8

/-- A 16-bit word: the width at which A, X, Y, S, D and PC are held (10_state.md R20). -/
abbrev Word := BitVec 16

/-- A 24-bit bus address: bank in bits 23 to 16, page in bits 15 to 8 (20_memory.md R62). -/
abbrev Addr := BitVec 24

end Sys2Proof
end

