-- ==== Sys2Proof/Machine/Bits.lean ====
section
/-! DEFINITION. Bit fields, byte order and operand widths (00_scope.md R9, 20_memory.md R63,
10_state.md R22, R23). -/

namespace Sys2Proof.Machine

open Sys2Proof

/-- Bits 7 to 0 of a word. -/
def lowByte (v : Word) : Byte := v.extractLsb' 0 8

/-- Bits 15 to 8 of a word. -/
def highByte (v : Word) : Byte := v.extractLsb' 8 8

/-- `hi:lo`, the word whose more significant byte is `hi` (R9). Every 16-bit quantity in memory has
`lo` at the lower address (20_memory.md R63). -/
def joinBytes (hi lo : Byte) : Word := hi ++ lo

/-- `bank:off`, the 24-bit address with bits 23 to 16 from `bank`. -/
def bankAddr (bank : Byte) (off : Word) : Addr := bank ++ off

/-- Bits 23 to 16 of an address. -/
def bankOf (a : Addr) : Byte := a.extractLsb' 16 8

/-- Bits 15 to 0 of an address. -/
def offsetOf (a : Addr) : Word := a.extractLsb' 0 16

/-- The word with high byte 0x00 (`zext_8`). -/
def zeroExt (b : Byte) : Word := b.setWidth 16

/-- The word that holds the two's complement reading of a byte (`sext_8`, R9). -/
def signExt (b : Byte) : Word := b.signExtend 16

/-- The width of an operand: 8 or 16 bits. -/
inductive Width where
  | w8
  | w16
deriving DecidableEq, Repr

/-- The width as a number of bits. -/
def Width.bits : Width → Nat
  | .w8 => 8
  | .w16 => 16

/-- The width a width flag selects: 8 bits when it is 1 (10_state.md R22, R23). -/
def Width.ofFlag (narrow : Bool) : Width := if narrow then .w8 else .w16

/-- `v mod 2^w`, as a word. -/
def Width.trunc (w : Width) (v : Word) : Word :=
  match w with
  | .w8 => zeroExt (lowByte v)
  | .w16 => v

/-- `v[w-1]`, the sign bit at width `w`. -/
def Width.sign (w : Width) (v : Word) : Bool := v.getLsbD (w.bits - 1)

end Sys2Proof.Machine
end

