-- ==== Sys2Proof/Syntax.lean ====
section
/-! DEFINITION. The instructions: one constructor per row of spec/opcode_table.json (30_encoding.md R96),
with the operand bytes of 30_encoding.md R92 as one operand. `Dp`, `DpX`, `DpY`, `Abs`, `AbsX`, `AbsY`,
`Long`, `Ind`, `IndY`, `Sr`, `Imm`, `Acc` name the addressing mode of 40_addressing_modes.md R110. -/

namespace Sys2Proof

/-- An immediate operand of format `IMM_M` or `IMM_X`: one byte or two (30_encoding.md R91, R92). -/
inductive Imm where
  | byte (v : Byte)
  | word (v : Word)
deriving DecidableEq, Repr

/-- The 205 admitted instructions. `off` is the direct or stack offset, `addr` the absolute or long
address, `disp` the branch displacement, `mask` the mask of REP and SEP, `sig` the signature byte of
BRK, `dst` and `src` the banks of a block move. -/
inductive Instr where
  | brk (sig : Byte)
  | oraSr (off : Byte)
  | tsbDp (off : Byte)
  | oraDp (off : Byte)
  | aslDp (off : Byte)
  | php
  | oraImm (v : Imm)
  | aslAcc
  | phd
  | tsbAbs (addr : Word)
  | oraAbs (addr : Word)
  | aslAbs (addr : Word)
  | oraLong (addr : Addr)
  | bpl (disp : Byte)
  | oraIndY (off : Byte)
  | oraInd (off : Byte)
  | trbDp (off : Byte)
  | oraDpX (off : Byte)
  | aslDpX (off : Byte)
  | clc
  | oraAbsY (addr : Word)
  | incAcc
  | tcs
  | trbAbs (addr : Word)
  | oraAbsX (addr : Word)
  | aslAbsX (addr : Word)
  | jsr (addr : Word)
  | jsl (addr : Addr)
  | andSr (off : Byte)
  | bitDp (off : Byte)
  | andDp (off : Byte)
  | rolDp (off : Byte)
  | plp
  | andImm (v : Imm)
  | rolAcc
  | pld
  | bitAbs (addr : Word)
  | andAbs (addr : Word)
  | rolAbs (addr : Word)
  | andLong (addr : Addr)
  | bmi (disp : Byte)
  | andIndY (off : Byte)
  | andInd (off : Byte)
  | bitDpX (off : Byte)
  | andDpX (off : Byte)
  | rolDpX (off : Byte)
  | sec
  | andAbsY (addr : Word)
  | decAcc
  | tsc
  | bitAbsX (addr : Word)
  | andAbsX (addr : Word)
  | rolAbsX (addr : Word)
  | rti
  | eorSr (off : Byte)
  | mvp (dst : Byte) (src : Byte)
  | eorDp (off : Byte)
  | lsrDp (off : Byte)
  | pha
  | eorImm (v : Imm)
  | lsrAcc
  | phk
  | jmpAbs (addr : Word)
  | eorAbs (addr : Word)
  | lsrAbs (addr : Word)
  | eorLong (addr : Addr)
  | bvc (disp : Byte)
  | eorIndY (off : Byte)
  | eorInd (off : Byte)
  | mvn (dst : Byte) (src : Byte)
  | eorDpX (off : Byte)
  | lsrDpX (off : Byte)
  | cli
  | eorAbsY (addr : Word)
  | phy
  | tcd
  | jml (addr : Addr)
  | eorAbsX (addr : Word)
  | lsrAbsX (addr : Word)
  | rts
  | adcSr (off : Byte)
  | stzDp (off : Byte)
  | adcDp (off : Byte)
  | rorDp (off : Byte)
  | pla
  | adcImm (v : Imm)
  | rorAcc
  | rtl
  | jmpInd (addr : Word)
  | adcAbs (addr : Word)
  | rorAbs (addr : Word)
  | adcLong (addr : Addr)
  | bvs (disp : Byte)
  | adcIndY (off : Byte)
  | adcInd (off : Byte)
  | stzDpX (off : Byte)
  | adcDpX (off : Byte)
  | rorDpX (off : Byte)
  | sei
  | adcAbsY (addr : Word)
  | ply
  | tdc
  | adcAbsX (addr : Word)
  | rorAbsX (addr : Word)
  | bra (disp : Byte)
  | staSr (off : Byte)
  | styDp (off : Byte)
  | staDp (off : Byte)
  | stxDp (off : Byte)
  | dey
  | bitImm (v : Imm)
  | txa
  | phb
  | styAbs (addr : Word)
  | staAbs (addr : Word)
  | stxAbs (addr : Word)
  | staLong (addr : Addr)
  | bcc (disp : Byte)
  | staIndY (off : Byte)
  | staInd (off : Byte)
  | styDpX (off : Byte)
  | staDpX (off : Byte)
  | stxDpY (off : Byte)
  | tya
  | staAbsY (addr : Word)
  | txs
  | txy
  | stzAbs (addr : Word)
  | staAbsX (addr : Word)
  | stzAbsX (addr : Word)
  | ldyImm (v : Imm)
  | ldxImm (v : Imm)
  | ldaSr (off : Byte)
  | ldyDp (off : Byte)
  | ldaDp (off : Byte)
  | ldxDp (off : Byte)
  | tay
  | ldaImm (v : Imm)
  | tax
  | plb
  | ldyAbs (addr : Word)
  | ldaAbs (addr : Word)
  | ldxAbs (addr : Word)
  | ldaLong (addr : Addr)
  | bcs (disp : Byte)
  | ldaIndY (off : Byte)
  | ldaInd (off : Byte)
  | ldyDpX (off : Byte)
  | ldaDpX (off : Byte)
  | ldxDpY (off : Byte)
  | clv
  | ldaAbsY (addr : Word)
  | tsx
  | tyx
  | ldyAbsX (addr : Word)
  | ldaAbsX (addr : Word)
  | ldxAbsY (addr : Word)
  | cpyImm (v : Imm)
  | rep (mask : Byte)
  | cmpSr (off : Byte)
  | cpyDp (off : Byte)
  | cmpDp (off : Byte)
  | decDp (off : Byte)
  | iny
  | cmpImm (v : Imm)
  | dex
  | cpyAbs (addr : Word)
  | cmpAbs (addr : Word)
  | decAbs (addr : Word)
  | cmpLong (addr : Addr)
  | bne (disp : Byte)
  | cmpIndY (off : Byte)
  | cmpInd (off : Byte)
  | cmpDpX (off : Byte)
  | decDpX (off : Byte)
  | cld
  | cmpAbsY (addr : Word)
  | phx
  | cmpAbsX (addr : Word)
  | decAbsX (addr : Word)
  | cpxImm (v : Imm)
  | sep (mask : Byte)
  | sbcSr (off : Byte)
  | cpxDp (off : Byte)
  | sbcDp (off : Byte)
  | incDp (off : Byte)
  | inx
  | sbcImm (v : Imm)
  | nop
  | xba
  | cpxAbs (addr : Word)
  | sbcAbs (addr : Word)
  | incAbs (addr : Word)
  | sbcLong (addr : Addr)
  | beq (disp : Byte)
  | sbcIndY (off : Byte)
  | sbcInd (off : Byte)
  | sbcDpX (off : Byte)
  | incDpX (off : Byte)
  | sed
  | sbcAbsY (addr : Word)
  | plx
  | xce
  | sbcAbsX (addr : Word)
  | incAbsX (addr : Word)
deriving DecidableEq, Repr

end Sys2Proof
end

