-- ==== Sys2Proof/WellFormed.lean ====
section
/-! DEFINITION. Which instructions the encoding admits, given the width flags in force: an immediate
has the width its flag selects (30_encoding.md R91, R100). Every other operand value is legal
(30_encoding.md R99). -/

namespace Sys2Proof

/-- The immediate is 8 bits wide exactly when the flag is 1 (30_encoding.md R91). -/
def Imm.fits (narrow : Bool) : Imm → Bool
  | .byte _ => narrow
  | .word _ => !narrow

/-- `i` is an instruction a decoder can read while the flags M and XF are `m` and `xf`: an `IMM_M`
operand has the width of M, an `IMM_X` operand that of XF (30_encoding.md R91). -/
def WellFormed (m xf : Bool) (i : Instr) : Bool :=
  match i with
  | .brk _ => true
  | .oraSr _ => true
  | .tsbDp _ => true
  | .oraDp _ => true
  | .aslDp _ => true
  | .php => true
  | .oraImm v => v.fits m
  | .aslAcc => true
  | .phd => true
  | .tsbAbs _ => true
  | .oraAbs _ => true
  | .aslAbs _ => true
  | .oraLong _ => true
  | .bpl _ => true
  | .oraIndY _ => true
  | .oraInd _ => true
  | .trbDp _ => true
  | .oraDpX _ => true
  | .aslDpX _ => true
  | .clc => true
  | .oraAbsY _ => true
  | .incAcc => true
  | .tcs => true
  | .trbAbs _ => true
  | .oraAbsX _ => true
  | .aslAbsX _ => true
  | .jsr _ => true
  | .jsl _ => true
  | .andSr _ => true
  | .bitDp _ => true
  | .andDp _ => true
  | .rolDp _ => true
  | .plp => true
  | .andImm v => v.fits m
  | .rolAcc => true
  | .pld => true
  | .bitAbs _ => true
  | .andAbs _ => true
  | .rolAbs _ => true
  | .andLong _ => true
  | .bmi _ => true
  | .andIndY _ => true
  | .andInd _ => true
  | .bitDpX _ => true
  | .andDpX _ => true
  | .rolDpX _ => true
  | .sec => true
  | .andAbsY _ => true
  | .decAcc => true
  | .tsc => true
  | .bitAbsX _ => true
  | .andAbsX _ => true
  | .rolAbsX _ => true
  | .rti => true
  | .eorSr _ => true
  | .mvp _ _ => true
  | .eorDp _ => true
  | .lsrDp _ => true
  | .pha => true
  | .eorImm v => v.fits m
  | .lsrAcc => true
  | .phk => true
  | .jmpAbs _ => true
  | .eorAbs _ => true
  | .lsrAbs _ => true
  | .eorLong _ => true
  | .bvc _ => true
  | .eorIndY _ => true
  | .eorInd _ => true
  | .mvn _ _ => true
  | .eorDpX _ => true
  | .lsrDpX _ => true
  | .cli => true
  | .eorAbsY _ => true
  | .phy => true
  | .tcd => true
  | .jml _ => true
  | .eorAbsX _ => true
  | .lsrAbsX _ => true
  | .rts => true
  | .adcSr _ => true
  | .stzDp _ => true
  | .adcDp _ => true
  | .rorDp _ => true
  | .pla => true
  | .adcImm v => v.fits m
  | .rorAcc => true
  | .rtl => true
  | .jmpInd _ => true
  | .adcAbs _ => true
  | .rorAbs _ => true
  | .adcLong _ => true
  | .bvs _ => true
  | .adcIndY _ => true
  | .adcInd _ => true
  | .stzDpX _ => true
  | .adcDpX _ => true
  | .rorDpX _ => true
  | .sei => true
  | .adcAbsY _ => true
  | .ply => true
  | .tdc => true
  | .adcAbsX _ => true
  | .rorAbsX _ => true
  | .bra _ => true
  | .staSr _ => true
  | .styDp _ => true
  | .staDp _ => true
  | .stxDp _ => true
  | .dey => true
  | .bitImm v => v.fits m
  | .txa => true
  | .phb => true
  | .styAbs _ => true
  | .staAbs _ => true
  | .stxAbs _ => true
  | .staLong _ => true
  | .bcc _ => true
  | .staIndY _ => true
  | .staInd _ => true
  | .styDpX _ => true
  | .staDpX _ => true
  | .stxDpY _ => true
  | .tya => true
  | .staAbsY _ => true
  | .txs => true
  | .txy => true
  | .stzAbs _ => true
  | .staAbsX _ => true
  | .stzAbsX _ => true
  | .ldyImm v => v.fits xf
  | .ldxImm v => v.fits xf
  | .ldaSr _ => true
  | .ldyDp _ => true
  | .ldaDp _ => true
  | .ldxDp _ => true
  | .tay => true
  | .ldaImm v => v.fits m
  | .tax => true
  | .plb => true
  | .ldyAbs _ => true
  | .ldaAbs _ => true
  | .ldxAbs _ => true
  | .ldaLong _ => true
  | .bcs _ => true
  | .ldaIndY _ => true
  | .ldaInd _ => true
  | .ldyDpX _ => true
  | .ldaDpX _ => true
  | .ldxDpY _ => true
  | .clv => true
  | .ldaAbsY _ => true
  | .tsx => true
  | .tyx => true
  | .ldyAbsX _ => true
  | .ldaAbsX _ => true
  | .ldxAbsY _ => true
  | .cpyImm v => v.fits xf
  | .rep _ => true
  | .cmpSr _ => true
  | .cpyDp _ => true
  | .cmpDp _ => true
  | .decDp _ => true
  | .iny => true
  | .cmpImm v => v.fits m
  | .dex => true
  | .cpyAbs _ => true
  | .cmpAbs _ => true
  | .decAbs _ => true
  | .cmpLong _ => true
  | .bne _ => true
  | .cmpIndY _ => true
  | .cmpInd _ => true
  | .cmpDpX _ => true
  | .decDpX _ => true
  | .cld => true
  | .cmpAbsY _ => true
  | .phx => true
  | .cmpAbsX _ => true
  | .decAbsX _ => true
  | .cpxImm v => v.fits xf
  | .sep _ => true
  | .sbcSr _ => true
  | .cpxDp _ => true
  | .sbcDp _ => true
  | .incDp _ => true
  | .inx => true
  | .sbcImm v => v.fits m
  | .nop => true
  | .xba => true
  | .cpxAbs _ => true
  | .sbcAbs _ => true
  | .incAbs _ => true
  | .sbcLong _ => true
  | .beq _ => true
  | .sbcIndY _ => true
  | .sbcInd _ => true
  | .sbcDpX _ => true
  | .incDpX _ => true
  | .sed => true
  | .sbcAbsY _ => true
  | .plx => true
  | .xce => true
  | .sbcAbsX _ => true
  | .incAbsX _ => true

end Sys2Proof
end

