-- ==== Sys2Proof/Decode.lean ====
section
/-! DEFINITION. The decoder and the encoder (30_encoding.md R90 to R99). The opcode byte alone selects
the instruction; the width flags select the length of an immediate (R91, R100). Both are written from
the map of R96 and the layouts of R92; multi-byte operands are little-endian (20_memory.md R63). -/

namespace Sys2Proof

open Sys2Proof.Machine (lowByte highByte joinBytes bankAddr)

/-- The operand format of an opcode and the instruction it makes of its operand (30_encoding.md R91). -/
inductive Format where
  /-- `IMP`, `ACC`, `STK`: no operand byte -/
  | plain (i : Instr)
  /-- `DP`, `SR`, `REL`, `IMM8`, `SIG`: one byte -/
  | byte (f : Byte → Instr)
  /-- `ABS`: address low, address high -/
  | word (f : Word → Instr)
  /-- `ABL`: address low, address high, bank -/
  | long (f : Addr → Instr)
  /-- `BLK`: destination bank, source bank -/
  | banks (f : Byte → Byte → Instr)
  /-- `IMM_M`: one byte if M = 1, else two -/
  | immM (f : Imm → Instr)
  /-- `IMM_X`: one byte if XF = 1, else two -/
  | immX (f : Imm → Instr)

/-- Row 0x of the map of 30_encoding.md R96; `none` is an unimplemented byte value (R98). -/
def opcodeRow0 : List (Option Format) :=
  [some (.byte .brk), none, none, some (.byte .oraSr),
   some (.byte .tsbDp), some (.byte .oraDp), some (.byte .aslDp), none,
   some (.plain .php), some (.immM .oraImm), some (.plain .aslAcc), some (.plain .phd),
   some (.word .tsbAbs), some (.word .oraAbs), some (.word .aslAbs), some (.long .oraLong)]

/-- Row 1x of the map of 30_encoding.md R96; `none` is an unimplemented byte value (R98). -/
def opcodeRow1 : List (Option Format) :=
  [some (.byte .bpl), some (.byte .oraIndY), some (.byte .oraInd), none,
   some (.byte .trbDp), some (.byte .oraDpX), some (.byte .aslDpX), none,
   some (.plain .clc), some (.word .oraAbsY), some (.plain .incAcc), some (.plain .tcs),
   some (.word .trbAbs), some (.word .oraAbsX), some (.word .aslAbsX), none]

/-- Row 2x of the map of 30_encoding.md R96; `none` is an unimplemented byte value (R98). -/
def opcodeRow2 : List (Option Format) :=
  [some (.word .jsr), none, some (.long .jsl), some (.byte .andSr),
   some (.byte .bitDp), some (.byte .andDp), some (.byte .rolDp), none,
   some (.plain .plp), some (.immM .andImm), some (.plain .rolAcc), some (.plain .pld),
   some (.word .bitAbs), some (.word .andAbs), some (.word .rolAbs), some (.long .andLong)]

/-- Row 3x of the map of 30_encoding.md R96; `none` is an unimplemented byte value (R98). -/
def opcodeRow3 : List (Option Format) :=
  [some (.byte .bmi), some (.byte .andIndY), some (.byte .andInd), none,
   some (.byte .bitDpX), some (.byte .andDpX), some (.byte .rolDpX), none,
   some (.plain .sec), some (.word .andAbsY), some (.plain .decAcc), some (.plain .tsc),
   some (.word .bitAbsX), some (.word .andAbsX), some (.word .rolAbsX), none]

/-- Row 4x of the map of 30_encoding.md R96; `none` is an unimplemented byte value (R98). -/
def opcodeRow4 : List (Option Format) :=
  [some (.plain .rti), none, none, some (.byte .eorSr),
   some (.banks .mvp), some (.byte .eorDp), some (.byte .lsrDp), none,
   some (.plain .pha), some (.immM .eorImm), some (.plain .lsrAcc), some (.plain .phk),
   some (.word .jmpAbs), some (.word .eorAbs), some (.word .lsrAbs), some (.long .eorLong)]

/-- Row 5x of the map of 30_encoding.md R96; `none` is an unimplemented byte value (R98). -/
def opcodeRow5 : List (Option Format) :=
  [some (.byte .bvc), some (.byte .eorIndY), some (.byte .eorInd), none,
   some (.banks .mvn), some (.byte .eorDpX), some (.byte .lsrDpX), none,
   some (.plain .cli), some (.word .eorAbsY), some (.plain .phy), some (.plain .tcd),
   some (.long .jml), some (.word .eorAbsX), some (.word .lsrAbsX), none]

/-- Row 6x of the map of 30_encoding.md R96; `none` is an unimplemented byte value (R98). -/
def opcodeRow6 : List (Option Format) :=
  [some (.plain .rts), none, none, some (.byte .adcSr),
   some (.byte .stzDp), some (.byte .adcDp), some (.byte .rorDp), none,
   some (.plain .pla), some (.immM .adcImm), some (.plain .rorAcc), some (.plain .rtl),
   some (.word .jmpInd), some (.word .adcAbs), some (.word .rorAbs), some (.long .adcLong)]

/-- Row 7x of the map of 30_encoding.md R96; `none` is an unimplemented byte value (R98). -/
def opcodeRow7 : List (Option Format) :=
  [some (.byte .bvs), some (.byte .adcIndY), some (.byte .adcInd), none,
   some (.byte .stzDpX), some (.byte .adcDpX), some (.byte .rorDpX), none,
   some (.plain .sei), some (.word .adcAbsY), some (.plain .ply), some (.plain .tdc),
   none, some (.word .adcAbsX), some (.word .rorAbsX), none]

/-- Row 8x of the map of 30_encoding.md R96; `none` is an unimplemented byte value (R98). -/
def opcodeRow8 : List (Option Format) :=
  [some (.byte .bra), none, none, some (.byte .staSr),
   some (.byte .styDp), some (.byte .staDp), some (.byte .stxDp), none,
   some (.plain .dey), some (.immM .bitImm), some (.plain .txa), some (.plain .phb),
   some (.word .styAbs), some (.word .staAbs), some (.word .stxAbs), some (.long .staLong)]

/-- Row 9x of the map of 30_encoding.md R96; `none` is an unimplemented byte value (R98). -/
def opcodeRow9 : List (Option Format) :=
  [some (.byte .bcc), some (.byte .staIndY), some (.byte .staInd), none,
   some (.byte .styDpX), some (.byte .staDpX), some (.byte .stxDpY), none,
   some (.plain .tya), some (.word .staAbsY), some (.plain .txs), some (.plain .txy),
   some (.word .stzAbs), some (.word .staAbsX), some (.word .stzAbsX), none]

/-- Row Ax of the map of 30_encoding.md R96; `none` is an unimplemented byte value (R98). -/
def opcodeRowA : List (Option Format) :=
  [some (.immX .ldyImm), none, some (.immX .ldxImm), some (.byte .ldaSr),
   some (.byte .ldyDp), some (.byte .ldaDp), some (.byte .ldxDp), none,
   some (.plain .tay), some (.immM .ldaImm), some (.plain .tax), some (.plain .plb),
   some (.word .ldyAbs), some (.word .ldaAbs), some (.word .ldxAbs), some (.long .ldaLong)]

/-- Row Bx of the map of 30_encoding.md R96; `none` is an unimplemented byte value (R98). -/
def opcodeRowB : List (Option Format) :=
  [some (.byte .bcs), some (.byte .ldaIndY), some (.byte .ldaInd), none,
   some (.byte .ldyDpX), some (.byte .ldaDpX), some (.byte .ldxDpY), none,
   some (.plain .clv), some (.word .ldaAbsY), some (.plain .tsx), some (.plain .tyx),
   some (.word .ldyAbsX), some (.word .ldaAbsX), some (.word .ldxAbsY), none]

/-- Row Cx of the map of 30_encoding.md R96; `none` is an unimplemented byte value (R98). -/
def opcodeRowC : List (Option Format) :=
  [some (.immX .cpyImm), none, some (.byte .rep), some (.byte .cmpSr),
   some (.byte .cpyDp), some (.byte .cmpDp), some (.byte .decDp), none,
   some (.plain .iny), some (.immM .cmpImm), some (.plain .dex), none,
   some (.word .cpyAbs), some (.word .cmpAbs), some (.word .decAbs), some (.long .cmpLong)]

/-- Row Dx of the map of 30_encoding.md R96; `none` is an unimplemented byte value (R98). -/
def opcodeRowD : List (Option Format) :=
  [some (.byte .bne), some (.byte .cmpIndY), some (.byte .cmpInd), none,
   none, some (.byte .cmpDpX), some (.byte .decDpX), none,
   some (.plain .cld), some (.word .cmpAbsY), some (.plain .phx), none,
   none, some (.word .cmpAbsX), some (.word .decAbsX), none]

/-- Row Ex of the map of 30_encoding.md R96; `none` is an unimplemented byte value (R98). -/
def opcodeRowE : List (Option Format) :=
  [some (.immX .cpxImm), none, some (.byte .sep), some (.byte .sbcSr),
   some (.byte .cpxDp), some (.byte .sbcDp), some (.byte .incDp), none,
   some (.plain .inx), some (.immM .sbcImm), some (.plain .nop), some (.plain .xba),
   some (.word .cpxAbs), some (.word .sbcAbs), some (.word .incAbs), some (.long .sbcLong)]

/-- Row Fx of the map of 30_encoding.md R96; `none` is an unimplemented byte value (R98). -/
def opcodeRowF : List (Option Format) :=
  [some (.byte .beq), some (.byte .sbcIndY), some (.byte .sbcInd), none,
   none, some (.byte .sbcDpX), some (.byte .incDpX), none,
   some (.plain .sed), some (.word .sbcAbsY), some (.plain .plx), some (.plain .xce),
   none, some (.word .sbcAbsX), some (.word .incAbsX), none]

/-- The 256 entries of the map of 30_encoding.md R96, by opcode byte. -/
def opcodeMap : List (Option Format) :=
  opcodeRow0 ++ opcodeRow1 ++ opcodeRow2 ++ opcodeRow3 ++ opcodeRow4 ++ opcodeRow5 ++ opcodeRow6 ++
  opcodeRow7 ++ opcodeRow8 ++ opcodeRow9 ++ opcodeRowA ++ opcodeRowB ++ opcodeRowC ++ opcodeRowD ++
  opcodeRowE ++ opcodeRowF

/-- The format of an opcode byte, `none` for the 51 values of 30_encoding.md R98. -/
def opcodeFormat (op : Byte) : Option Format := (opcodeMap[op.toNat]?).join

/-- How many operand bytes follow the opcode while the width flags are `m` and `xf`
(30_encoding.md R91). -/
def Format.operandBytes (m xf : Bool) : Format → Nat
  | .plain _ => 0
  | .byte _ => 1
  | .word _ => 2
  | .long _ => 3
  | .banks _ => 2
  | .immM _ => if m then 1 else 2
  | .immX _ => if xf then 1 else 2

/-- An immediate operand and the bytes after it (30_encoding.md R92, R93). -/
def readImm (narrow : Bool) (f : Imm → Instr) (bs : List Byte) : Option (Instr × List Byte) :=
  match narrow, bs with
  | true, b :: rest => some (f (.byte b), rest)
  | false, lo :: hi :: rest => some (f (.word (joinBytes hi lo)), rest)
  | _, _ => none

/-- The instruction of a format and its operand bytes, with the bytes after it (30_encoding.md R92). -/
def Format.build (m xf : Bool) (fmt : Format) (bs : List Byte) : Option (Instr × List Byte) :=
  match fmt, bs with
  | .plain i, rest => some (i, rest)
  | .byte f, b :: rest => some (f b, rest)
  | .word f, lo :: hi :: rest => some (f (joinBytes hi lo), rest)
  | .long f, lo :: hi :: bank :: rest => some (f (bankAddr bank (joinBytes hi lo)), rest)
  | .banks f, dst :: src :: rest => some (f dst src, rest)
  | .immM f, rest => readImm m f rest
  | .immX f, rest => readImm xf f rest
  | _, _ => none

/-- What the decoder answers. -/
inductive DecodeResult where
  /-- an instruction and the bytes after it -/
  | instr (i : Instr) (rest : List Byte)
  /-- one of the 51 byte values of 30_encoding.md R98 -/
  | unimplemented (op : Byte)
  /-- too few operand bytes for the opcode `op` -/
  | truncated (op : Byte)
  /-- no byte at all -/
  | noBytes
deriving DecidableEq, Repr

/-- Decode the first instruction of a list of bytes while the width flags are `m` and `xf`
(30_encoding.md R90, R91, R100). Total: every list gets an answer. -/
def decode (m xf : Bool) : List Byte → DecodeResult
  | [] => .noBytes
  | op :: bs =>
    match opcodeFormat op with
    | none => .unimplemented op
    | some fmt =>
      match fmt.build m xf bs with
      | some (i, rest) => .instr i rest
      | none => .truncated op

/-- The instruction of a decoder's answer. -/
def DecodeResult.toOption : DecodeResult → Option Instr
  | .instr i _ => some i
  | _ => none

/-- Byte `k` of a number whose bit 0 is the least significant bit of the first byte. -/
def numberByte (w k : Nat) : Byte := BitVec.ofNat 8 (w / 256 ^ k)

/-- The bytes of an instruction given as a number of `nbits` bits, filled up with zeros to the longest
instruction, four bytes (30_encoding.md R91). -/
def tableBytes (nbits w : Nat) : List Byte :=
  let v := w % 2 ^ nbits
  [numberByte v 0, numberByte v 1, numberByte v 2, numberByte v 3]

/-- The instruction the decoder reads from a number of spec/opcode_table.json, with the widths in
force after reset, M = XF = 1 (log 9). -/
def decodeTableWord (nbits w : Nat) : Option Instr := (decode true true (tableBytes nbits w)).toOption

/-- The two operand bytes of a 16-bit address or immediate, low byte first (30_encoding.md R92). -/
def wordBytes (v : Word) : List Byte := [lowByte v, highByte v]

/-- The three operand bytes of a long address (30_encoding.md R92). -/
def longBytes (a : Addr) : List Byte := [a.extractLsb' 0 8, a.extractLsb' 8 8, a.extractLsb' 16 8]

/-- The one or two bytes of an immediate (30_encoding.md R92). -/
def Imm.bytes : Imm → List Byte
  | .byte v => [v]
  | .word v => wordBytes v

/-- The bytes of an instruction: the opcode byte of 30_encoding.md R96, then the operand bytes of R92
(`BLK`: destination bank first, R95). -/
def encode : Instr → List Byte
  | .brk sig => [0x00, sig]
  | .oraSr off => [0x03, off]
  | .tsbDp off => [0x04, off]
  | .oraDp off => [0x05, off]
  | .aslDp off => [0x06, off]
  | .php => [0x08]
  | .oraImm v => 0x09 :: v.bytes
  | .aslAcc => [0x0A]
  | .phd => [0x0B]
  | .tsbAbs addr => 0x0C :: wordBytes addr
  | .oraAbs addr => 0x0D :: wordBytes addr
  | .aslAbs addr => 0x0E :: wordBytes addr
  | .oraLong addr => 0x0F :: longBytes addr
  | .bpl disp => [0x10, disp]
  | .oraIndY off => [0x11, off]
  | .oraInd off => [0x12, off]
  | .trbDp off => [0x14, off]
  | .oraDpX off => [0x15, off]
  | .aslDpX off => [0x16, off]
  | .clc => [0x18]
  | .oraAbsY addr => 0x19 :: wordBytes addr
  | .incAcc => [0x1A]
  | .tcs => [0x1B]
  | .trbAbs addr => 0x1C :: wordBytes addr
  | .oraAbsX addr => 0x1D :: wordBytes addr
  | .aslAbsX addr => 0x1E :: wordBytes addr
  | .jsr addr => 0x20 :: wordBytes addr
  | .jsl addr => 0x22 :: longBytes addr
  | .andSr off => [0x23, off]
  | .bitDp off => [0x24, off]
  | .andDp off => [0x25, off]
  | .rolDp off => [0x26, off]
  | .plp => [0x28]
  | .andImm v => 0x29 :: v.bytes
  | .rolAcc => [0x2A]
  | .pld => [0x2B]
  | .bitAbs addr => 0x2C :: wordBytes addr
  | .andAbs addr => 0x2D :: wordBytes addr
  | .rolAbs addr => 0x2E :: wordBytes addr
  | .andLong addr => 0x2F :: longBytes addr
  | .bmi disp => [0x30, disp]
  | .andIndY off => [0x31, off]
  | .andInd off => [0x32, off]
  | .bitDpX off => [0x34, off]
  | .andDpX off => [0x35, off]
  | .rolDpX off => [0x36, off]
  | .sec => [0x38]
  | .andAbsY addr => 0x39 :: wordBytes addr
  | .decAcc => [0x3A]
  | .tsc => [0x3B]
  | .bitAbsX addr => 0x3C :: wordBytes addr
  | .andAbsX addr => 0x3D :: wordBytes addr
  | .rolAbsX addr => 0x3E :: wordBytes addr
  | .rti => [0x40]
  | .eorSr off => [0x43, off]
  | .mvp dst src => [0x44, dst, src]
  | .eorDp off => [0x45, off]
  | .lsrDp off => [0x46, off]
  | .pha => [0x48]
  | .eorImm v => 0x49 :: v.bytes
  | .lsrAcc => [0x4A]
  | .phk => [0x4B]
  | .jmpAbs addr => 0x4C :: wordBytes addr
  | .eorAbs addr => 0x4D :: wordBytes addr
  | .lsrAbs addr => 0x4E :: wordBytes addr
  | .eorLong addr => 0x4F :: longBytes addr
  | .bvc disp => [0x50, disp]
  | .eorIndY off => [0x51, off]
  | .eorInd off => [0x52, off]
  | .mvn dst src => [0x54, dst, src]
  | .eorDpX off => [0x55, off]
  | .lsrDpX off => [0x56, off]
  | .cli => [0x58]
  | .eorAbsY addr => 0x59 :: wordBytes addr
  | .phy => [0x5A]
  | .tcd => [0x5B]
  | .jml addr => 0x5C :: longBytes addr
  | .eorAbsX addr => 0x5D :: wordBytes addr
  | .lsrAbsX addr => 0x5E :: wordBytes addr
  | .rts => [0x60]
  | .adcSr off => [0x63, off]
  | .stzDp off => [0x64, off]
  | .adcDp off => [0x65, off]
  | .rorDp off => [0x66, off]
  | .pla => [0x68]
  | .adcImm v => 0x69 :: v.bytes
  | .rorAcc => [0x6A]
  | .rtl => [0x6B]
  | .jmpInd addr => 0x6C :: wordBytes addr
  | .adcAbs addr => 0x6D :: wordBytes addr
  | .rorAbs addr => 0x6E :: wordBytes addr
  | .adcLong addr => 0x6F :: longBytes addr
  | .bvs disp => [0x70, disp]
  | .adcIndY off => [0x71, off]
  | .adcInd off => [0x72, off]
  | .stzDpX off => [0x74, off]
  | .adcDpX off => [0x75, off]
  | .rorDpX off => [0x76, off]
  | .sei => [0x78]
  | .adcAbsY addr => 0x79 :: wordBytes addr
  | .ply => [0x7A]
  | .tdc => [0x7B]
  | .adcAbsX addr => 0x7D :: wordBytes addr
  | .rorAbsX addr => 0x7E :: wordBytes addr
  | .bra disp => [0x80, disp]
  | .staSr off => [0x83, off]
  | .styDp off => [0x84, off]
  | .staDp off => [0x85, off]
  | .stxDp off => [0x86, off]
  | .dey => [0x88]
  | .bitImm v => 0x89 :: v.bytes
  | .txa => [0x8A]
  | .phb => [0x8B]
  | .styAbs addr => 0x8C :: wordBytes addr
  | .staAbs addr => 0x8D :: wordBytes addr
  | .stxAbs addr => 0x8E :: wordBytes addr
  | .staLong addr => 0x8F :: longBytes addr
  | .bcc disp => [0x90, disp]
  | .staIndY off => [0x91, off]
  | .staInd off => [0x92, off]
  | .styDpX off => [0x94, off]
  | .staDpX off => [0x95, off]
  | .stxDpY off => [0x96, off]
  | .tya => [0x98]
  | .staAbsY addr => 0x99 :: wordBytes addr
  | .txs => [0x9A]
  | .txy => [0x9B]
  | .stzAbs addr => 0x9C :: wordBytes addr
  | .staAbsX addr => 0x9D :: wordBytes addr
  | .stzAbsX addr => 0x9E :: wordBytes addr
  | .ldyImm v => 0xA0 :: v.bytes
  | .ldxImm v => 0xA2 :: v.bytes
  | .ldaSr off => [0xA3, off]
  | .ldyDp off => [0xA4, off]
  | .ldaDp off => [0xA5, off]
  | .ldxDp off => [0xA6, off]
  | .tay => [0xA8]
  | .ldaImm v => 0xA9 :: v.bytes
  | .tax => [0xAA]
  | .plb => [0xAB]
  | .ldyAbs addr => 0xAC :: wordBytes addr
  | .ldaAbs addr => 0xAD :: wordBytes addr
  | .ldxAbs addr => 0xAE :: wordBytes addr
  | .ldaLong addr => 0xAF :: longBytes addr
  | .bcs disp => [0xB0, disp]
  | .ldaIndY off => [0xB1, off]
  | .ldaInd off => [0xB2, off]
  | .ldyDpX off => [0xB4, off]
  | .ldaDpX off => [0xB5, off]
  | .ldxDpY off => [0xB6, off]
  | .clv => [0xB8]
  | .ldaAbsY addr => 0xB9 :: wordBytes addr
  | .tsx => [0xBA]
  | .tyx => [0xBB]
  | .ldyAbsX addr => 0xBC :: wordBytes addr
  | .ldaAbsX addr => 0xBD :: wordBytes addr
  | .ldxAbsY addr => 0xBE :: wordBytes addr
  | .cpyImm v => 0xC0 :: v.bytes
  | .rep mask => [0xC2, mask]
  | .cmpSr off => [0xC3, off]
  | .cpyDp off => [0xC4, off]
  | .cmpDp off => [0xC5, off]
  | .decDp off => [0xC6, off]
  | .iny => [0xC8]
  | .cmpImm v => 0xC9 :: v.bytes
  | .dex => [0xCA]
  | .cpyAbs addr => 0xCC :: wordBytes addr
  | .cmpAbs addr => 0xCD :: wordBytes addr
  | .decAbs addr => 0xCE :: wordBytes addr
  | .cmpLong addr => 0xCF :: longBytes addr
  | .bne disp => [0xD0, disp]
  | .cmpIndY off => [0xD1, off]
  | .cmpInd off => [0xD2, off]
  | .cmpDpX off => [0xD5, off]
  | .decDpX off => [0xD6, off]
  | .cld => [0xD8]
  | .cmpAbsY addr => 0xD9 :: wordBytes addr
  | .phx => [0xDA]
  | .cmpAbsX addr => 0xDD :: wordBytes addr
  | .decAbsX addr => 0xDE :: wordBytes addr
  | .cpxImm v => 0xE0 :: v.bytes
  | .sep mask => [0xE2, mask]
  | .sbcSr off => [0xE3, off]
  | .cpxDp off => [0xE4, off]
  | .sbcDp off => [0xE5, off]
  | .incDp off => [0xE6, off]
  | .inx => [0xE8]
  | .sbcImm v => 0xE9 :: v.bytes
  | .nop => [0xEA]
  | .xba => [0xEB]
  | .cpxAbs addr => 0xEC :: wordBytes addr
  | .sbcAbs addr => 0xED :: wordBytes addr
  | .incAbs addr => 0xEE :: wordBytes addr
  | .sbcLong addr => 0xEF :: longBytes addr
  | .beq disp => [0xF0, disp]
  | .sbcIndY off => [0xF1, off]
  | .sbcInd off => [0xF2, off]
  | .sbcDpX off => [0xF5, off]
  | .incDpX off => [0xF6, off]
  | .sed => [0xF8]
  | .sbcAbsY addr => 0xF9 :: wordBytes addr
  | .plx => [0xFA]
  | .xce => [0xFB]
  | .sbcAbsX addr => 0xFD :: wordBytes addr
  | .incAbsX addr => 0xFE :: wordBytes addr

end Sys2Proof
end

