-- ==== Sys2Proof/Config.lean ====
section
/-! DEFINITION. What an implementation fixes. The spec leaves exactly two things to it: the
`POWERON_*` values (10_state.md R52) and the Bus (20_memory.md R61). No instruction leaves a value
undefined, so there is no free value. -/

namespace Sys2Proof

/-- The open values of 10_state.md R52: what these fields hold between power-on and the first write.
The model takes them as an argument of `Machine.State.powerOn`. -/
structure PowerOn where
  /-- `POWERON_A` -/
  a : Word
  /-- `POWERON_XL` -/
  xl : Byte
  /-- `POWERON_YL` -/
  yl : Byte
  /-- `POWERON_SL` -/
  sl : Byte
  /-- `POWERON_NVZC`, bit N -/
  n : Bool
  /-- `POWERON_NVZC`, bit V -/
  v : Bool
  /-- `POWERON_NVZC`, bit Z -/
  z : Bool
  /-- `POWERON_NVZC`, bit C -/
  c : Bool
  /-- `POWERON_PC` -/
  pc : Word
  /-- `POWERON_PBR` -/
  pbr : Byte
deriving DecidableEq, Repr

/-- DESIGN CHOICE, unsafe (log 1): the one value per register that `Machine.State.reset` takes where
the spec gives none. No statement of the package rests on it. -/
def PowerOn.zero : PowerOn :=
  { a := 0, xl := 0, yl := 0, sl := 0, n := false, v := false, z := false, c := false, pc := 0, pbr := 0 }

/-- What an address of the store that nothing lists reads as: "missing addresses default to 0"
(20_memory.md R61). -/
def missingByte : Byte := 0x00

end Sys2Proof
end

