-- ==== Sys2Proof/Machine/State.lean ====
section
/-! DEFINITION. The state of the core as plain data (10_state.md), the faults and refusals of a step,
and the state at power-on (10_state.md R50, R52; 70_reset_and_hazards.md R333). -/

namespace Sys2Proof.Machine

open Sys2Proof

/-- The register file (10_state.md R20), each register at its full held width. -/
structure Regs where
  /-- accumulator (`C` for all 16 bits; bits 15 to 8 are `B`) -/
  a : Word
  /-- index register X -/
  x : Word
  /-- index register Y -/
  y : Word
  /-- stack pointer -/
  s : Word
  /-- direct-page register -/
  d : Word
  /-- program counter within the program bank -/
  pc : Word
  /-- program bank register -/
  pbr : Byte
  /-- data bank register -/
  dbr : Byte
deriving DecidableEq, Repr

/-- The nine held flags (10_state.md R30). Z is held as the bit (R32). -/
structure Flags where
  /-- negative -/
  n : Bool
  /-- overflow -/
  v : Bool
  /-- accumulator and memory width: 1 is 8 bits -/
  m : Bool
  /-- index width (`XF`): 1 is 8 bits -/
  xf : Bool
  /-- decimal (`DF`) -/
  df : Bool
  /-- interrupt disable -/
  i : Bool
  /-- zero -/
  z : Bool
  /-- carry -/
  c : Bool
  /-- emulation mode -/
  e : Bool
deriving DecidableEq, Repr

/-- `InterruptLine`: the three pending bits (10_state.md R40). -/
structure InterruptLine where
  reset : Bool
  nmi : Bool
  irq : Bool
deriving DecidableEq, Repr

/-- The asynchronous event types (60_exceptions.md R293). -/
inductive Interrupt where
  | reset
  | nmi
  | irq
deriving DecidableEq, Repr

/-- The fault record `UnimplementedOpcode(pc, opcode)` (10_state.md R42). -/
structure FaultRecord where
  /-- the 24-bit address of the opcode byte -/
  pc : Addr
  /-- the opcode byte -/
  opcode : Byte
deriving DecidableEq, Repr

/-- One bus call as the cycle log records it (20_memory.md R60, R80). An idle call has no address and
no value (90_conflicts.md C8). -/
inductive BusCall where
  | read (a : Addr) (v : Byte)
  | write (a : Addr) (v : Byte)
  | idle
deriving DecidableEq, Repr

/-- What the environment does during ONE bus call of the core (DESIGN CHOICE, logs 3 and 4): the byte
the Bus answers in place of the stored one if the call is a read (20_memory.md R61, R66), and the line
bits it drives (60_exceptions.md R294). `none` leaves the store's byte, or the lines, as they are. -/
structure BusEvent where
  answer : Option Byte
  line : Option InterruptLine
deriving DecidableEq, Repr

/-- The Bus's store: addresses strictly rising, no entry equal to `missingByte` (20_memory.md R61). -/
abbrev Memory := List Host.Cell

/-- The whole state (10_state.md R20 to R43), with the Bus's store (20_memory.md R61, R62), the
environment's script and the cycle log of the last step (20_memory.md R80). -/
structure State where
  /-- the register file -/
  regs : Regs
  /-- the flags -/
  flags : Flags
  /-- the interrupt lines -/
  line : InterruptLine
  /-- `ilatch` (10_state.md R41): what the last `POLL` selected -/
  ilatch : Option Interrupt
  /-- the fault record -/
  fault : Option FaultRecord
  /-- the Bus's store -/
  mem : Memory
  /-- the environment's part in the coming bus calls, the next one first -/
  env : List BusEvent
  /-- the bus calls of the step, the first one first -/
  log : List BusCall
deriving DecidableEq, Repr

/-- Why a step stops the machine. -/
inductive Fault where
  /-- The error `UnimplementedOpcode(pc, opcode)` that `step()` returns: raised by the step that fetches
  an unimplemented opcode (60_exceptions.md R290; R300 step 4), and by every step at a state whose fault
  record is set (R291; R300 step 1). `after` is the state that the step leaves (log 10). Safe: the spec
  names the error and makes it terminal. -/
  | unimplementedOpcode (error : FaultRecord) (after : State)
deriving DecidableEq, Repr

/-- Why the model gives no meaning. -/
inductive Refusal where
  /-- Raised by an arm of `exec` for an instruction without a meaning: in this package by none.
  Safe: nothing is claimed of a refused instruction. -/
  | notModelled (mnemonic : String)
deriving DecidableEq, Repr

/-- A core just constructed (70_reset_and_hazards.md R333, the "at power-on" column of 10_state.md R50)
over a Bus whose store holds `mem` and whose environment will act as `env` says. `ilatch = RESET`, so
the first step is the reset sequence. -/
def State.powerOn (p : PowerOn) (mem : Memory) (env : List BusEvent) : State where
  regs :=
    { a := p.a, x := p.xl.setWidth 16, y := p.yl.setWidth 16, s := (0x01 : Byte) ++ p.sl, d := 0,
      pc := p.pc, pbr := p.pbr, dbr := 0 }
  flags :=
    { n := p.n, v := p.v, m := true, xf := true, df := false, i := true, z := p.z, c := p.c, e := true }
  line := { reset := false, nmi := false, irq := false }
  ilatch := some .reset
  fault := none
  mem := mem
  env := env
  log := []

/-- The machine right after power-on, with the values of log 1 for the registers the spec states no
value for (DESIGN CHOICE), nothing stored, and an environment that does nothing. -/
def State.reset : State := State.powerOn PowerOn.zero [] []

end Sys2Proof.Machine
end

