-- ==== Sys2Proof/Machine/Flags.lean ====
section
/-! DEFINITION. The flag computations: N and Z of a result (00_scope.md R10), the flag byte
(10_state.md R33, R34, R36), the carry and overflow law (41_binary_read.md R150) and the decimal
algorithms (R151, R152). None of them makes a bus call. -/

namespace Sys2Proof.Machine

open Sys2Proof

/-- `setNZ_w(v)` (00_scope.md R10). -/
def State.setNZ (w : Width) (v : Word) (s : State) : State :=
  { s with flags.n := w.sign v, flags.z := w.trunc v == 0 }

/-- Z alone, from a value (41_binary_read.md R149, 43_modify.md R211, R212). -/
def State.setZ (v : Word) (s : State) : State := { s with flags.z := v == 0 }

/-- The carry flag alone. -/
def State.setC (c : Bool) (s : State) : State := { s with flags.c := c }

/-- `flags_to_byte(break_flag)` (10_state.md R33): bits 5 and 4 are 1 and `break_flag` while E = 1, M and
XF while E = 0. -/
def flagsToByte (breakFlag : Bool) (f : Flags) : Byte :=
  BitVec.ofBool f.n ++ BitVec.ofBool f.v ++ BitVec.ofBool (if f.e then true else f.m) ++
  BitVec.ofBool (if f.e then breakFlag else f.xf) ++ BitVec.ofBool f.df ++ BitVec.ofBool f.i ++
  BitVec.ofBool f.z ++ BitVec.ofBool f.c

/-- The flags after `flags_from_byte(b)` (10_state.md R34): bits 5 and 4 are ignored while E = 1, and E
never changes. -/
def flagsFromByte (b : Byte) (f : Flags) : Flags :=
  { n := b.getLsbD 7
    v := b.getLsbD 6
    m := if f.e then f.m else b.getLsbD 5
    xf := if f.e then f.xf else b.getLsbD 4
    df := b.getLsbD 3
    i := b.getLsbD 2
    z := b.getLsbD 1
    c := b.getLsbD 0
    e := f.e }

/-- `X[15:8] <- 0; Y[15:8] <- 0` (10_state.md R36). -/
def State.clearIndexHigh (s : State) : State :=
  { s with regs.x := zeroExt (lowByte s.regs.x), regs.y := zeroExt (lowByte s.regs.y) }

/-- `flags_from_byte(b)` (10_state.md R34): the flags, and the index high bytes cleared if XF is then 1
(R36). -/
def State.loadFlags (b : Byte) (s : State) : State :=
  if (flagsFromByte b s.flags).xf then
    { s with flags := flagsFromByte b s.flags }.clearIndexHigh
  else
    { s with flags := flagsFromByte b s.flags }

/-- What an addition leaves: the stored `w`-bit result, V and C. -/
structure Sum where
  value : Word
  v : Bool
  c : Bool
deriving DecidableEq, Repr

/-- `((a ^ r) & (m ^ r))[w-1]`, with `r` an integer read in two's complement (41_binary_read.md R150). -/
def overflowBit (w : Width) (a m : Word) (r : Int) : Bool :=
  ((a ^^^ BitVec.ofInt 16 r) &&& (m ^^^ BitVec.ofInt 16 r)).getLsbD (w.bits - 1)

/-- `r mod 2^w` of an integer, as a word. -/
def Width.ofInt (w : Width) (r : Int) : Word := w.trunc (BitVec.ofInt 16 r)

/-- The binary addition of 41_binary_read.md R144 and R145 for `w`-bit `a` and `m`, at full precision. -/
def binarySum (w : Width) (a m : Word) (c : Bool) : Sum :=
  let r : Int := a.toNat + m.toNat + c.toNat
  { value := w.ofInt r, v := overflowBit w a m r, c := decide (r ≥ 2 ^ w.bits) }

/-- `v & mask` on the two's complement reading of `v`, for the mask of `n` ones that starts at bit `lo`
(41_binary_read.md R151, R152). -/
def maskInt (v : Int) (lo n : Nat) : Int := v / 2 ^ lo % 2 ^ n * 2 ^ lo

/-- A carry as the integer 0 or 1, moved to bit `lo`. -/
def carryInt (c : Bool) (lo : Nat) : Int := c.toNat * 2 ^ lo

/-- `decimal_adc_8` (41_binary_read.md R151). -/
def decimalAdc8 (a m : Word) (c : Bool) : Sum :=
  let ia : Int := a.toNat
  let im : Int := m.toNat
  let r0 := maskInt ia 0 4 + maskInt im 0 4 + carryInt c 0
  let r0 := if r0 > 0x09 then r0 + 0x06 else r0
  let r1 := maskInt ia 4 4 + maskInt im 4 4 + carryInt (r0 > 0x0F) 4 + maskInt r0 0 4
  let v := overflowBit .w8 a m r1
  let r1 := if r1 > 0x9F then r1 + 0x60 else r1
  { value := Width.w8.ofInt r1, v := v, c := r1 > 0xFF }

/-- `decimal_adc_16` (41_binary_read.md R151). -/
def decimalAdc16 (a m : Word) (c : Bool) : Sum :=
  let ia : Int := a.toNat
  let im : Int := m.toNat
  let r0 := maskInt ia 0 4 + maskInt im 0 4 + carryInt c 0
  let r0 := if r0 > 0x0009 then r0 + 0x0006 else r0
  let r1 := maskInt ia 4 4 + maskInt im 4 4 + carryInt (r0 > 0x000F) 4 + maskInt r0 0 4
  let r1 := if r1 > 0x009F then r1 + 0x0060 else r1
  let r2 := maskInt ia 8 4 + maskInt im 8 4 + carryInt (r1 > 0x00FF) 8 + maskInt r1 0 8
  let r2 := if r2 > 0x09FF then r2 + 0x0600 else r2
  let r3 := maskInt ia 12 4 + maskInt im 12 4 + carryInt (r2 > 0x0FFF) 12 + maskInt r2 0 12
  let v := overflowBit .w16 a m r3
  let r3 := if r3 > 0x9FFF then r3 + 0x6000 else r3
  { value := Width.w16.ofInt r3, v := v, c := r3 > 0xFFFF }

/-- `decimal_sbc_8` (41_binary_read.md R152); `m` is the already complemented operand. -/
def decimalSbc8 (a m : Word) (c : Bool) : Sum :=
  let ia : Int := a.toNat
  let im : Int := m.toNat
  let r0 := maskInt ia 0 4 + maskInt im 0 4 + carryInt c 0
  let r0 := if r0 ≤ 0x0F then r0 - 0x06 else r0
  let r1 := maskInt ia 4 4 + maskInt im 4 4 + carryInt (r0 > 0x0F) 4 + maskInt r0 0 4
  let v := overflowBit .w8 a m r1
  let r1 := if r1 ≤ 0xFF then r1 - 0x60 else r1
  { value := Width.w8.ofInt r1, v := v, c := r1 > 0xFF }

/-- `decimal_sbc_16` (41_binary_read.md R152); `m` is the already complemented operand. -/
def decimalSbc16 (a m : Word) (c : Bool) : Sum :=
  let ia : Int := a.toNat
  let im : Int := m.toNat
  let r0 := maskInt ia 0 4 + maskInt im 0 4 + carryInt c 0
  let r0 := if r0 ≤ 0x000F then r0 - 0x0006 else r0
  let r1 := maskInt ia 4 4 + maskInt im 4 4 + carryInt (r0 > 0x000F) 4 + maskInt r0 0 4
  let r1 := if r1 ≤ 0x00FF then r1 - 0x0060 else r1
  let r2 := maskInt ia 8 4 + maskInt im 8 4 + carryInt (r1 > 0x00FF) 8 + maskInt r1 0 8
  let r2 := if r2 ≤ 0x0FFF then r2 - 0x0600 else r2
  let r3 := maskInt ia 12 4 + maskInt im 12 4 + carryInt (r2 > 0x0FFF) 12 + maskInt r2 0 12
  let v := overflowBit .w16 a m r3
  let r3 := if r3 ≤ 0xFFFF then r3 - 0x6000 else r3
  { value := Width.w16.ofInt r3, v := v, c := r3 > 0xFFFF }

/-- The sum ADC stores (41_binary_read.md R144): binary, or decimal while DF = 1 (R151). -/
def adcSum (decimal : Bool) (w : Width) (a m : Word) (c : Bool) : Sum :=
  if decimal then
    match w with
    | .w8 => decimalAdc8 a m c
    | .w16 => decimalAdc16 a m c
  else binarySum w a m c

/-- The sum SBC stores (41_binary_read.md R145): the operand is complemented at width `w` and added,
binary, or decimal while DF = 1 (R152). -/
def sbcSum (decimal : Bool) (w : Width) (a m : Word) (c : Bool) : Sum :=
  if decimal then
    match w with
    | .w8 => decimalSbc8 a (w.trunc (~~~m)) c
    | .w16 => decimalSbc16 a (w.trunc (~~~m)) c
  else binarySum w a (w.trunc (~~~m)) c

end Sys2Proof.Machine
end

