-- ==== Sys2Proof/Machine/Ops.lean ====
section
/-! DEFINITION. The named operations over memory, the bus, the registers and the stack, the interrupt
poll, and taking an exception (NMI, IRQ, BRK, RESET, the unimplemented opcode) with the return from one.
10_state.md R21 to R36, 20_memory.md R60 to R80, 60_exceptions.md R290 to R304,
70_reset_and_hazards.md R331. -/

namespace Sys2Proof.Machine

open Sys2Proof

/-! ### The store of the Bus -/

/-- The stored byte at a key, `missingByte` where nothing is listed (20_memory.md R61). -/
def Memory.readKey (k : Nat) : Memory → Byte
  | [] => missingByte
  | (k', v) :: rest => if k' = k then v else Memory.readKey k rest

/-- Put a byte at a key, keeping the keys rising; writing `missingByte` takes the entry away. -/
def Memory.writeKey (k : Nat) (v : Byte) : Memory → Memory
  | [] => if v = missingByte then [] else [(k, v)]
  | (k', v') :: rest =>
    if k < k' then
      if v = missingByte then (k', v') :: rest else (k, v) :: (k', v') :: rest
    else if k = k' then
      if v = missingByte then rest else (k, v) :: rest
    else (k', v') :: Memory.writeKey k v rest

/-- The byte the store holds at an address (20_memory.md R61, R62). -/
def Memory.read (mem : Memory) (a : Addr) : Byte := Memory.readKey a.toNat mem

/-- The store with the byte at an address replaced (20_memory.md R61). -/
def Memory.write (mem : Memory) (a : Addr) (v : Byte) : Memory := Memory.writeKey a.toNat v mem

/-- The canonical form of a list whose keys all lie at `lo` or above: strictly rising keys, below 2^24,
and no entry that equals what an unlisted address reads as. -/
def Memory.wfFrom (lo : Nat) : Memory → Bool
  | [] => true
  | (k, v) :: rest => decide (lo ≤ k) && decide (k < 2 ^ 24) && v != missingByte && Memory.wfFrom (k + 1) rest

/-- The canonical form of the store. -/
def Memory.wf (mem : Memory) : Bool := Memory.wfFrom 0 mem

/-! ### The core's own steps -/

/-- A piece of a step: bus calls and state changes in the order written (00_scope.md R6, R10). -/
abbrev Core (α : Type) := StateM State α

/-- A value read off the state; no bus call (10_state.md R21). -/
def query {α : Type} (f : State → α) : Core α := fun s => (f s, s)

/-- A change of the state; no bus call (10_state.md R21). -/
def update (f : State → State) : Core Unit := fun s => ((), f s)

/-- One of two pieces, by a condition on the state where it stands. -/
def choose {α : Type} (c : State → Bool) (x y : Core α) : Core α := fun s => if c s then x s else y s

/-- A piece that runs only if the condition holds. -/
def runIf (c : Bool) (x : Core Unit) : Core Unit := fun s => if c then x s else ((), s)

/-! ### Bus calls -/

/-- The byte the Bus answers to a read at `a` over the store `mem`, given what the script says of the call:
the environment's, or else the store's (20_memory.md R61; log 3). -/
def answerOf (event : Option BusEvent) (mem : Memory) (a : Addr) : Byte :=
  match event with
  | none => mem.read a
  | some e => e.answer.getD (mem.read a)

/-- The line bits once the environment has acted in a bus call (60_exceptions.md R294; log 4). -/
def lineOf (event : Option BusEvent) (l : InterruptLine) : InterruptLine :=
  match event with
  | none => l
  | some e => e.line.getD l

/-- The byte the Bus answers to a read at `a` now. -/
def State.busAnswer (s : State) (a : Addr) : Byte := answerOf s.env.head? s.mem a

/-- One bus call passes: the environment acts, and the log records the call (20_memory.md R80). -/
def State.tick (call : BusCall) (s : State) : State :=
  { s with line := lineOf s.env.head? s.line, env := s.env.tail, log := s.log ++ [call] }

/-- `read(a)` (20_memory.md R60). -/
def busRead (a : Addr) : Core Byte := fun s => (s.busAnswer a, s.tick (.read a (s.busAnswer a)))

/-- A dummy read: the call is made and its value discarded (20_memory.md R66). -/
def dummyRead (a : Addr) : Core Unit := do
  let _ ← busRead a
  pure ()

/-- `write(a, v)` (20_memory.md R60, R61). -/
def busWrite (a : Addr) (v : Byte) : Core Unit := fun s =>
  ((), { s.tick (.write a v) with mem := s.mem.write a v })

/-- `idle()` (20_memory.md R60). -/
def busIdle : Core Unit := update (State.tick .idle)

/-! ### The poll -/

/-- What `POLL` selects from the line bits and flag I (60_exceptions.md R296, R298). -/
def pollResult (l : InterruptLine) (i : Bool) : Option Interrupt :=
  if l.reset then some .reset
  else if l.nmi then some .nmi
  else if l.irq && !i then some .irq
  else none

/-- `POLL` (60_exceptions.md R298): writes `ilatch`, makes no bus call, leaves the line bits. -/
def poll : Core Unit := update fun s => { s with ilatch := pollResult s.line s.flags.i }

/-! ### Registers -/

/-- `PBR:PC` (10_state.md R26). -/
def State.fetchAddr (s : State) : Addr := bankAddr s.regs.pbr s.regs.pc

/-- `fetch()` (10_state.md R27): PC wraps within 16 bits and never carries into PBR. -/
def fetch : Core Byte := do
  let a ← query State.fetchAddr
  let b ← busRead a
  update fun s => { s with regs.pc := s.regs.pc + 1 }
  pure b

/-- `n` fetches whose bytes the instruction already holds as its operand (log 5). -/
def fetchOperand : Nat → Core Unit
  | 0 => pure ()
  | n + 1 => do
    let _ ← fetch
    fetchOperand n

/-- `wA` (10_state.md R22). -/
def State.widthA (s : State) : Width := Width.ofFlag s.flags.m

/-- `wX` (10_state.md R23). -/
def State.widthX (s : State) : Width := Width.ofFlag s.flags.xf

/-- `getA()` (10_state.md R22). -/
def State.getA (s : State) : Word := s.widthA.trunc s.regs.a

/-- `setA(v)` (10_state.md R22): an 8-bit write preserves `A[15:8]`. -/
def State.setA (v : Word) (s : State) : State :=
  match s.widthA with
  | .w8 => { s with regs.a := joinBytes (highByte s.regs.a) (lowByte v) }
  | .w16 => { s with regs.a := v }

/-- `setX(v)` (10_state.md R23): an 8-bit write zeroes the high byte. -/
def State.setX (v : Word) (s : State) : State := { s with regs.x := s.widthX.trunc v }

/-- `setY(v)` (10_state.md R23). -/
def State.setY (v : Word) (s : State) : State := { s with regs.y := s.widthX.trunc v }

/-- `S <- v`, with the high byte forced to 0x01 while E = 1 (10_state.md R24). -/
def State.setS (v : Word) (s : State) : State :=
  { s with regs.s := if s.flags.e then joinBytes 0x01 (lowByte v) else v }

/-- `PC <- v`. -/
def State.setPC (v : Word) (s : State) : State := { s with regs.pc := v }

/-- `PBR <- b; PC <- v`. -/
def State.jumpLong (b : Byte) (v : Word) (s : State) : State := { s with regs.pbr := b, regs.pc := v }

/-! ### The stack (20_memory.md R70 to R74) -/

/-- `0x00:S`. -/
def State.stackAddr (s : State) : Addr := bankAddr 0x00 s.regs.s

/-- `push(v)` (R70): wraps within page 1 while E = 1. -/
def push (v : Byte) : Core Unit := do
  let a ← query State.stackAddr
  busWrite a v
  update fun s => s.setS (s.regs.s - 1)

/-- `pull()` (R71). -/
def pull : Core Byte := do
  update fun s => s.setS (s.regs.s + 1)
  let a ← query State.stackAddr
  busRead a

/-- `pushN(v)` (R72): S may leave page 1. -/
def pushN (v : Byte) : Core Unit := do
  let a ← query State.stackAddr
  busWrite a v
  update fun s => { s with regs.s := s.regs.s - 1 }

/-- `pullN()` (R73). -/
def pullN : Core Byte := do
  update fun s => { s with regs.s := s.regs.s + 1 }
  let a ← query State.stackAddr
  busRead a

/-- `fixS` (R74): back to page 1 while E = 1. -/
def fixS : Core Unit := update fun s => s.setS s.regs.s

/-! ### Taking an exception and returning from one -/

/-- The vectors of 60_exceptions.md R304, by event and mode. `none` is BRK. Reset forces E = 1 first. -/
def vectorAddr (k : Option Interrupt) (e : Bool) : Addr :=
  match k, e with
  | none, false => 0x00FFE6
  | none, true => 0x00FFFE
  | some .nmi, false => 0x00FFEA
  | some .nmi, true => 0x00FFFA
  | some .irq, false => 0x00FFEE
  | some .irq, true => 0x00FFFE
  | some .reset, _ => 0x00FFFC

/-- Two bytes of a vector, with `POLL` before the second, then the handler's address in bank 0
(60_exceptions.md R301 calls 7 and 8; 70_reset_and_hazards.md R331 calls 6 and 7). -/
def jumpVector (v : Addr) : Core Unit := do
  let lo ← busRead v
  poll
  let hi ← busRead (v + 1)
  update (State.jumpLong 0x00 (joinBytes hi lo))

/-- `I <- 1; DF <- 0`: what every interrupt, BRK and reset sequence does to the flags (10_state.md R31). -/
def State.enterFlags (s : State) : State := { s with flags.i := true, flags.df := false }

/-- Taking an exception: calls 3 to 8 of 60_exceptions.md R301, shared by NMI and IRQ (`break_flag` 0)
and BRK (`break_flag` 1, R303). Saves PBR (native mode), PC and the flag byte on the stack, sets I, clears
DF, and goes to the vector's address in bank 0. -/
def takeException (k : Option Interrupt) (breakFlag : Bool) : Core Unit := do
  let s ← query id
  runIf (!s.flags.e) (push s.regs.pbr)
  push (highByte s.regs.pc)
  push (lowByte s.regs.pc)
  push (flagsToByte breakFlag s.flags)
  update State.enterFlags
  jumpVector (vectorAddr k s.flags.e)

/-- The accept sequence for NMI or IRQ (60_exceptions.md R301). -/
def acceptInterrupt (k : Interrupt) : Core Unit := do
  let a ← query State.fetchAddr
  dummyRead a
  busIdle
  takeException (some k) false

/-- What a reset forces between its calls 2 and 3 (70_reset_and_hazards.md R331). -/
def State.resetForced (s : State) : State :=
  { s with
    flags.e := true, flags.m := true, flags.xf := true
    regs.x := zeroExt (lowByte s.regs.x), regs.y := zeroExt (lowByte s.regs.y)
    regs.s := joinBytes 0x01 (lowByte s.regs.s), regs.d := 0, regs.dbr := 0 }

/-- A dummy stack cycle of the reset sequence: a read at the stack address, then S decremented in page 1
(70_reset_and_hazards.md R331). -/
def resetStackCycle : Core Unit := do
  let a ← query State.stackAddr
  dummyRead a
  update fun s => { s with regs.s := joinBytes 0x01 (lowByte s.regs.s - 1) }

/-- The reset sequence (70_reset_and_hazards.md R331): seven bus calls, no write. -/
def resetSequence : Core Unit := do
  let a ← query State.fetchAddr
  dummyRead a
  busIdle
  update State.resetForced
  resetStackCycle
  resetStackCycle
  resetStackCycle
  update State.enterFlags
  jumpVector (vectorAddr (some .reset) true)

/-- `acknowledge(k)` (60_exceptions.md R302): IRQ is a level its source holds. -/
def State.acknowledge (k : Interrupt) (s : State) : State :=
  match k with
  | .reset => { s with line.reset := false }
  | .nmi => { s with line.nmi := false }
  | .irq => s

/-- Step 2 of 60_exceptions.md R300: `ilatch` is consumed, the event acknowledged, its sequence run. -/
def serviceInterrupt (k : Interrupt) : Core Unit := do
  update fun s => { s with ilatch := none }
  update (State.acknowledge k)
  match k with
  | .reset => resetSequence
  | .nmi => acceptInterrupt .nmi
  | .irq => acceptInterrupt .irq

/-- Steps 3 and 4 of 60_exceptions.md R300 for an unimplemented opcode (R290): the opcode fetch, the fault
recorded with the opcode's address and byte, and that record as the error. Nothing else changes. -/
def raiseUnimplemented : Core FaultRecord := do
  let pc0 ← query State.fetchAddr
  let op ← fetch
  update fun s => { s with fault := some { pc := pc0, opcode := op } }
  pure { pc := pc0, opcode := op }

/-- The return from an exception, after RTI's opcode fetch (45_control_stack_system.md R243). The flags
come back before `POLL`; E is not changed. -/
def returnFromException : Core Unit := do
  busIdle
  busIdle
  let p ← pull
  update (State.loadFlags p)
  let lo ← pull
  choose (fun s => s.flags.e)
    (do
      poll
      let hi ← pull
      update (State.setPC (joinBytes hi lo)))
    (do
      let hi ← pull
      poll
      let b ← pull
      update (State.jumpLong b (joinBytes hi lo)))

/-- A meaning that is a list of bus calls and state changes always ends in a next state: no admitted
instruction faults (60_exceptions.md R292). -/
def complete (c : Core Unit) (s : State) : Host.Outcome State Fault Refusal := .next (c s).2

/-- A piece that ends in the error it gives: what `step()` returns is the error, with the state the piece
leaves (60_exceptions.md R290; log 10). -/
def failWith (c : Core FaultRecord) (s : State) : Host.Outcome State Fault Refusal :=
  .fault (.unimplementedOpcode (c s).1 (c s).2)

end Sys2Proof.Machine
end

