-- ==== Sys2Proof/Machine/Operands.lean ====
section
/-! DEFINITION. The addressing-mode resolver and the operand access sequences
(40_addressing_modes.md R110 to R127), and the shared shapes of the instruction families that use them
(41_binary_read.md R140, 42_move_load.md R160, 43_modify.md R200). -/

namespace Sys2Proof.Machine

open Sys2Proof

/-- The value of an immediate, zero-extended (30_encoding.md R93). -/
def immValue : Imm → Word
  | .byte v => zeroExt v
  | .word v => v

/-- The addressing modes with an effective address, each with its operand bytes
(40_addressing_modes.md R110). -/
inductive Mode where
  /-- `d` (R112) -/
  | dp (off : Byte)
  /-- `d,X` (R113) -/
  | dpx (off : Byte)
  /-- `d,Y` (R113) -/
  | dpy (off : Byte)
  /-- `a` (R114) -/
  | abs (addr : Word)
  /-- `a,X` (R115) -/
  | abx (addr : Word)
  /-- `a,Y` (R115) -/
  | aby (addr : Word)
  /-- `al` (R116) -/
  | abl (addr : Addr)
  /-- `(d)` (R117) -/
  | ind (off : Byte)
  /-- `(d),Y` (R118) -/
  | iny (off : Byte)
  /-- `s,S` (R119) -/
  | sr (off : Byte)
deriving DecidableEq, Repr

/-- The pair `(ea0, ea1)` a resolver returns (40_addressing_modes.md R110): the address of the operand's
low byte, and the address its high byte has if the operand is 16 bits (20_memory.md R68). -/
structure EffAddr where
  lo : Addr
  hi : Addr
deriving DecidableEq, Repr

/-! ### Address formation -/

/-- `dpaddr(o, n)` (40_addressing_modes.md R126): within the page while E = 1 and `D[7:0] = 0`, within bank
0 otherwise. -/
def State.directAddr (s : State) (o n : Word) : Addr :=
  if s.flags.e && lowByte s.regs.d == 0 then
    bankAddr 0x00 (joinBytes (highByte s.regs.d) (lowByte (o + n)))
  else bankAddr 0x00 (s.regs.d + o + n)

/-- The effective address of a direct-page sum (R112, R113). -/
def State.directEff (s : State) (o : Word) : EffAddr := ⟨s.directAddr o 0, s.directAddr o 1⟩

/-- An effective address whose second byte carries into the bank (20_memory.md R68). -/
def longEff (a : Addr) : EffAddr := ⟨a, a + 1⟩

/-- `(DBR << 16) + base + i`, modulo 2^24 (R115, R118). -/
def State.indexedAddr (s : State) (base i : Word) : Addr :=
  bankAddr s.regs.dbr base + i.setWidth 24

/-- The address of the dummy read of an indexed access: the base's bank and high byte with the low byte of
the sum (R115, R118). -/
def State.uncarriedAddr (s : State) (base i : Word) : Addr :=
  bankAddr s.regs.dbr (joinBytes (highByte base) (lowByte (base + i)))

/-- `cross(base, i)` (40_addressing_modes.md R127), on the 17-bit sum. -/
def pageCross (base i : Word) : Bool := (base.toNat + i.toNat) / 256 != base.toNat / 256

/-- The effective address of a stack-relative operand (R119): no page-1 wrap. -/
def State.stackRelEff (s : State) (off : Byte) : EffAddr :=
  ⟨bankAddr 0x00 (s.regs.s + zeroExt off), bankAddr 0x00 (s.regs.s + zeroExt off + 1)⟩

/-! ### The resolver -/

/-- Call 2a of R112, R113, R117, R118: one idle when `D[7:0]` is not 0. -/
def directIdle : Core Unit := choose (fun s => lowByte s.regs.d != 0) busIdle (pure ())

/-- The 16-bit pointer of an indirect mode (R117, R118 calls 3 and 4). -/
def readPointer (off : Byte) : Core Word := do
  let s ← query id
  let lo ← busRead (s.directAddr (zeroExt off) 0)
  let hi ← busRead (s.directAddr (zeroExt off) 1)
  pure (joinBytes hi lo)

/-- The last part of an indexed mode (R115 call 3a, R118 call 4a): the dummy read if the access writes or
the index crosses a page, then the 24-bit sum. -/
def resolveIndexed (base i : Word) (writeIntent : Bool) : Core EffAddr := do
  let s ← query id
  runIf (writeIntent || pageCross base i) (dummyRead (s.uncarriedAddr base i))
  pure (longEff (s.indexedAddr base i))

/-- `resolve(core, write_intent)` (40_addressing_modes.md R110 to R119), after the opcode fetch. -/
def resolve (mode : Mode) (writeIntent : Bool) : Core EffAddr :=
  match mode with
  | .dp off => do
    fetchOperand 1
    directIdle
    query fun s => s.directEff (zeroExt off)
  | .dpx off => do
    fetchOperand 1
    directIdle
    let s ← query id
    dummyRead (s.directAddr (zeroExt off) 0)
    pure (s.directEff (zeroExt off + s.regs.x))
  | .dpy off => do
    fetchOperand 1
    directIdle
    let s ← query id
    dummyRead (s.directAddr (zeroExt off) 0)
    pure (s.directEff (zeroExt off + s.regs.y))
  | .abs addr => do
    fetchOperand 2
    query fun s => longEff (bankAddr s.regs.dbr addr)
  | .abx addr => do
    fetchOperand 2
    let i ← query fun s => s.regs.x
    resolveIndexed addr i writeIntent
  | .aby addr => do
    fetchOperand 2
    let i ← query fun s => s.regs.y
    resolveIndexed addr i writeIntent
  | .abl addr => do
    fetchOperand 3
    pure (longEff addr)
  | .ind off => do
    fetchOperand 1
    directIdle
    let p ← readPointer off
    query fun s => longEff (bankAddr s.regs.dbr p)
  | .iny off => do
    fetchOperand 1
    directIdle
    let p ← readPointer off
    let i ← query fun s => s.regs.y
    resolveIndexed p i writeIntent
  | .sr off => do
    fetchOperand 1
    busIdle
    query fun s => s.stackRelEff off

/-! ### Operand access sequences -/

/-- The read sequence (40_addressing_modes.md R123). -/
def readOperand (w : Width) (ea : EffAddr) : Core Word :=
  match w with
  | .w8 => do
    poll
    let v ← busRead ea.lo
    pure (zeroExt v)
  | .w16 => do
    let lo ← busRead ea.lo
    poll
    let hi ← busRead ea.hi
    pure (joinBytes hi lo)

/-- The read sequence of an immediate (40_addressing_modes.md R111, R123); the value is the
instruction's own operand, at width `w` (logs 5 and 8). -/
def readImmediate (w : Width) (v : Imm) : Core Word :=
  match w with
  | .w8 => do
    poll
    fetchOperand 1
    pure (Width.w8.trunc (immValue v))
  | .w16 => do
    fetchOperand 1
    poll
    fetchOperand 1
    pure (immValue v)

/-- The write sequence (40_addressing_modes.md R124): low byte first. -/
def writeOperand (w : Width) (ea : EffAddr) (v : Word) : Core Unit :=
  match w with
  | .w8 => do
    poll
    busWrite ea.lo (lowByte v)
  | .w16 => do
    busWrite ea.lo (lowByte v)
    poll
    busWrite ea.hi (highByte v)

/-- The operand of a modify instruction (40_addressing_modes.md R125): no poll here. -/
def readForModify (w : Width) (ea : EffAddr) : Core Word :=
  match w with
  | .w8 => do
    let v ← busRead ea.lo
    pure (zeroExt v)
  | .w16 => do
    let lo ← busRead ea.lo
    let hi ← busRead ea.hi
    pure (joinBytes hi lo)

/-- The dummy cycle of a modify instruction (R125): the unmodified low byte written back while E = 1, an
idle call while E = 0. -/
def modifyDummy (ea : EffAddr) (v : Word) : Core Unit :=
  choose (fun s => s.flags.e) (busWrite ea.lo (lowByte v)) busIdle

/-- The high byte of a 16-bit result of a modify instruction; an 8-bit one has none (R125). -/
def writeModifiedHigh (w : Width) (ea : EffAddr) (r : Word) : Core Unit :=
  match w with
  | .w8 => pure ()
  | .w16 => busWrite ea.hi (highByte r)

/-- The last part of a modify instruction (R125): high byte first, `POLL` before the low byte. -/
def writeModified (w : Width) (ea : EffAddr) (r : Word) : Core Unit := do
  writeModifiedHigh w ea r
  poll
  busWrite ea.lo (lowByte r)

/-! ### The shapes of the families -/

/-- What a read instruction does with its operand: `apply(lhs, m)` at width `w`, no bus call. -/
abbrev ReadOp := Width → Word → State → State

/-- What a modify instruction computes: the result and the state with its flags written. -/
abbrev ModifyOp := Width → Word → State → Word × State

/-- A read instruction on memory (41_binary_read.md R140, 42_move_load.md R160): opcode fetch, resolve with
read intent, read sequence, operator. `w` is the width flag's width (10_state.md R37). -/
def readInstr (w : State → Width) (mode : Mode) (op : ReadOp) : Core Unit := do
  let _ ← fetch
  let ea ← resolve mode false
  let n ← query w
  let m ← readOperand n ea
  update (op n m)

/-- A read instruction with an immediate operand (41_binary_read.md R140, 42_move_load.md R160). -/
def immediateInstr (w : State → Width) (v : Imm) (op : ReadOp) : Core Unit := do
  let _ ← fetch
  let n ← query w
  let m ← readImmediate n v
  update (op n m)

/-- A store (42_move_load.md R160): opcode fetch, resolve with write intent, write sequence. -/
def storeInstr (w : State → Width) (mode : Mode) (value : State → Word) : Core Unit := do
  let _ ← fetch
  let ea ← resolve mode true
  let n ← query w
  let v ← query value
  writeOperand n ea v

/-- A modify instruction on memory (43_modify.md R200, 40_addressing_modes.md R125). -/
def modifyInstr (mode : Mode) (op : ModifyOp) : Core Unit := do
  let _ ← fetch
  let ea ← resolve mode true
  let n ← query State.widthA
  let v ← readForModify n ea
  modifyDummy ea v
  let r ← fun s => op n v s
  writeModified n ea r

/-- An implied instruction (40_addressing_modes.md R120): opcode fetch, `POLL`, one idle, then its effect. -/
def impliedInstr (effect : State → State) : Core Unit := do
  let _ ← fetch
  poll
  busIdle
  update effect

/-- A modify instruction on the accumulator (43_modify.md R200): an implied instruction. -/
def accumulatorInstr (op : ModifyOp) : Core Unit :=
  impliedInstr fun s => (op s.widthA s.getA s).2.setA (op s.widthA s.getA s).1

end Sys2Proof.Machine
end

