-- ==== Sys2Proof/Machine/Alu.lean ====
section
/-! DEFINITION. The operators of the families (41_binary_read.md R141 to R149, 42_move_load.md R161 to
R163, 43_modify.md R201 to R212): what `apply` does to the registers and flags, with no bus call. -/

namespace Sys2Proof.Machine

open Sys2Proof

/-! ### Binary and read operators -/

/-- `setA(r); setNZ_w(r)`, the end of every accumulator operator. -/
def State.setANZ (w : Width) (r : Word) (s : State) : State := (s.setA r).setNZ w r

/-- ORA (41_binary_read.md R141). -/
def opOra : ReadOp := fun w m s => s.setANZ w (s.getA ||| m)

/-- AND (41_binary_read.md R142). -/
def opAnd : ReadOp := fun w m s => s.setANZ w (s.getA &&& m)

/-- EOR (41_binary_read.md R143). -/
def opEor : ReadOp := fun w m s => s.setANZ w (s.getA ^^^ m)

/-- The end of ADC and SBC: A, N, Z from the stored sum, V and C from its computation (R144, R145). -/
def State.setSum (w : Width) (r : Sum) (s : State) : State :=
  let t := s.setANZ w r.value
  { t with flags.v := r.v, flags.c := r.c }

/-- ADC (41_binary_read.md R144, R151). -/
def opAdc : ReadOp := fun w m s => s.setSum w (adcSum s.flags.df w s.getA m s.flags.c)

/-- SBC (41_binary_read.md R145, R152). -/
def opSbc : ReadOp := fun w m s => s.setSum w (sbcSum s.flags.df w s.getA m s.flags.c)

/-- A comparison of the `w`-bit values `l` and `m` (41_binary_read.md R146): C is the unsigned
`l >= m`, N and Z come from the difference. V, DF and the register take no part. -/
def State.compare (w : Width) (l m : Word) (s : State) : State :=
  (s.setNZ w (w.trunc (l - m))).setC (decide (m.toNat ≤ l.toNat))

/-- CMP (41_binary_read.md R146). -/
def opCmp : ReadOp := fun w m s => s.compare w s.getA m

/-- CPX (41_binary_read.md R147). -/
def opCpx : ReadOp := fun w m s => s.compare w (w.trunc s.regs.x) m

/-- CPY (41_binary_read.md R148). -/
def opCpy : ReadOp := fun w m s => s.compare w (w.trunc s.regs.y) m

/-- BIT with a memory operand (41_binary_read.md R149): N and V are copied from the operand, Z comes from
the AND. -/
def opBit : ReadOp := fun w m s =>
  let t := s.setZ (s.getA &&& m)
  { t with flags.n := m.getLsbD (w.bits - 1), flags.v := m.getLsbD (w.bits - 2) }

/-- BIT with an immediate operand (41_binary_read.md R149): Z only. -/
def opBitImm : ReadOp := fun _ m s => s.setZ (s.getA &&& m)

/-! ### Loads -/

/-- LDA (42_move_load.md R161). -/
def opLda : ReadOp := fun w m s => s.setANZ w m

/-- LDX (42_move_load.md R162). -/
def opLdx : ReadOp := fun w m s => (s.setX m).setNZ w m

/-- LDY (42_move_load.md R163). -/
def opLdy : ReadOp := fun w m s => (s.setY m).setNZ w m

/-! ### Modify operators -/

/-- ASL (43_modify.md R201). -/
def opAsl : ModifyOp := fun w v s =>
  let r := w.trunc (v <<< 1)
  (r, (s.setC (w.sign v)).setNZ w r)

/-- LSR (43_modify.md R202). -/
def opLsr : ModifyOp := fun w v s =>
  let r := v >>> 1
  (r, (s.setC (v.getLsbD 0)).setNZ w r)

/-- A carry as a word with the carry in bit `k`. -/
def carryWord (c : Bool) (k : Nat) : Word := (if c then 1 else 0) <<< k

/-- ROL (43_modify.md R203). -/
def opRol : ModifyOp := fun w v s =>
  let r := w.trunc (v <<< 1 ||| carryWord s.flags.c 0)
  (r, (s.setC (w.sign v)).setNZ w r)

/-- ROR (43_modify.md R204). -/
def opRor : ModifyOp := fun w v s =>
  let r := v >>> 1 ||| carryWord s.flags.c (w.bits - 1)
  (r, (s.setC (v.getLsbD 0)).setNZ w r)

/-- INC (43_modify.md R205). -/
def opInc : ModifyOp := fun w v s =>
  let r := w.trunc (v + 1)
  (r, s.setNZ w r)

/-- DEC (43_modify.md R206). -/
def opDec : ModifyOp := fun w v s =>
  let r := w.trunc (v - 1)
  (r, s.setNZ w r)

/-- TSB (43_modify.md R211): Z from the AND, not from the result. -/
def opTsb : ModifyOp := fun _ v s => (v ||| s.getA, s.setZ (s.getA &&& v))

/-- TRB (43_modify.md R212): the complement is taken at width `w`. -/
def opTrb : ModifyOp := fun w v s => (v &&& w.trunc (~~~s.getA), s.setZ (s.getA &&& v))

/-- INX, DEX and the transfers into X: `setX(v); setNZ_w(X)`, with `w = wX` (42_move_load.md R170, R175,
R177; 43_modify.md R207, R209). -/
def State.setXNZ (v : Word) (s : State) : State := (s.setX v).setNZ s.widthX (s.widthX.trunc v)

/-- INY, DEY and the transfers into Y (42_move_load.md R171, R176; 43_modify.md R208, R210). -/
def State.setYNZ (v : Word) (s : State) : State := (s.setY v).setNZ s.widthX (s.widthX.trunc v)

end Sys2Proof.Machine
end

