-- ==== Sys2Proof/Machine/BinaryRead.lean ====
section
/-! DEFINITION. The meanings of ORA, AND, EOR, ADC, SBC, CMP, CPX, CPY and BIT (41_binary_read.md R140 to R152). -/

namespace Sys2Proof.Machine

open Sys2Proof

/-- ORA s,S, opcode 0x03 (41_binary_read.md R141, 40_addressing_modes.md R119). -/
def execOraSr (off : Byte) (s : State) : Host.Outcome State Fault Refusal :=
  complete (readInstr State.widthA (.sr off) opOra) s

/-- ORA d, opcode 0x05 (41_binary_read.md R141, 40_addressing_modes.md R112). -/
def execOraDp (off : Byte) (s : State) : Host.Outcome State Fault Refusal :=
  complete (readInstr State.widthA (.dp off) opOra) s

/-- ORA #, opcode 0x09 (41_binary_read.md R141, 40_addressing_modes.md R111). -/
def execOraImm (v : Imm) (s : State) : Host.Outcome State Fault Refusal :=
  complete (immediateInstr State.widthA v opOra) s

/-- ORA a, opcode 0x0D (41_binary_read.md R141, 40_addressing_modes.md R114). -/
def execOraAbs (addr : Word) (s : State) : Host.Outcome State Fault Refusal :=
  complete (readInstr State.widthA (.abs addr) opOra) s

/-- ORA al, opcode 0x0F (41_binary_read.md R141, 40_addressing_modes.md R116). -/
def execOraLong (addr : Addr) (s : State) : Host.Outcome State Fault Refusal :=
  complete (readInstr State.widthA (.abl addr) opOra) s

/-- ORA (d),Y, opcode 0x11 (41_binary_read.md R141, 40_addressing_modes.md R118). -/
def execOraIndY (off : Byte) (s : State) : Host.Outcome State Fault Refusal :=
  complete (readInstr State.widthA (.iny off) opOra) s

/-- ORA (d), opcode 0x12 (41_binary_read.md R141, 40_addressing_modes.md R117). -/
def execOraInd (off : Byte) (s : State) : Host.Outcome State Fault Refusal :=
  complete (readInstr State.widthA (.ind off) opOra) s

/-- ORA d,X, opcode 0x15 (41_binary_read.md R141, 40_addressing_modes.md R113). -/
def execOraDpX (off : Byte) (s : State) : Host.Outcome State Fault Refusal :=
  complete (readInstr State.widthA (.dpx off) opOra) s

/-- ORA a,Y, opcode 0x19 (41_binary_read.md R141, 40_addressing_modes.md R115). -/
def execOraAbsY (addr : Word) (s : State) : Host.Outcome State Fault Refusal :=
  complete (readInstr State.widthA (.aby addr) opOra) s

/-- ORA a,X, opcode 0x1D (41_binary_read.md R141, 40_addressing_modes.md R115). -/
def execOraAbsX (addr : Word) (s : State) : Host.Outcome State Fault Refusal :=
  complete (readInstr State.widthA (.abx addr) opOra) s

/-- AND s,S, opcode 0x23 (41_binary_read.md R142, 40_addressing_modes.md R119). -/
def execAndSr (off : Byte) (s : State) : Host.Outcome State Fault Refusal :=
  complete (readInstr State.widthA (.sr off) opAnd) s

/-- AND d, opcode 0x25 (41_binary_read.md R142, 40_addressing_modes.md R112). -/
def execAndDp (off : Byte) (s : State) : Host.Outcome State Fault Refusal :=
  complete (readInstr State.widthA (.dp off) opAnd) s

/-- AND #, opcode 0x29 (41_binary_read.md R142, 40_addressing_modes.md R111). -/
def execAndImm (v : Imm) (s : State) : Host.Outcome State Fault Refusal :=
  complete (immediateInstr State.widthA v opAnd) s

/-- AND a, opcode 0x2D (41_binary_read.md R142, 40_addressing_modes.md R114). -/
def execAndAbs (addr : Word) (s : State) : Host.Outcome State Fault Refusal :=
  complete (readInstr State.widthA (.abs addr) opAnd) s

/-- AND al, opcode 0x2F (41_binary_read.md R142, 40_addressing_modes.md R116). -/
def execAndLong (addr : Addr) (s : State) : Host.Outcome State Fault Refusal :=
  complete (readInstr State.widthA (.abl addr) opAnd) s

/-- AND (d),Y, opcode 0x31 (41_binary_read.md R142, 40_addressing_modes.md R118). -/
def execAndIndY (off : Byte) (s : State) : Host.Outcome State Fault Refusal :=
  complete (readInstr State.widthA (.iny off) opAnd) s

/-- AND (d), opcode 0x32 (41_binary_read.md R142, 40_addressing_modes.md R117). -/
def execAndInd (off : Byte) (s : State) : Host.Outcome State Fault Refusal :=
  complete (readInstr State.widthA (.ind off) opAnd) s

/-- AND d,X, opcode 0x35 (41_binary_read.md R142, 40_addressing_modes.md R113). -/
def execAndDpX (off : Byte) (s : State) : Host.Outcome State Fault Refusal :=
  complete (readInstr State.widthA (.dpx off) opAnd) s

/-- AND a,Y, opcode 0x39 (41_binary_read.md R142, 40_addressing_modes.md R115). -/
def execAndAbsY (addr : Word) (s : State) : Host.Outcome State Fault Refusal :=
  complete (readInstr State.widthA (.aby addr) opAnd) s

/-- AND a,X, opcode 0x3D (41_binary_read.md R142, 40_addressing_modes.md R115). -/
def execAndAbsX (addr : Word) (s : State) : Host.Outcome State Fault Refusal :=
  complete (readInstr State.widthA (.abx addr) opAnd) s

/-- EOR s,S, opcode 0x43 (41_binary_read.md R143, 40_addressing_modes.md R119). -/
def execEorSr (off : Byte) (s : State) : Host.Outcome State Fault Refusal :=
  complete (readInstr State.widthA (.sr off) opEor) s

/-- EOR d, opcode 0x45 (41_binary_read.md R143, 40_addressing_modes.md R112). -/
def execEorDp (off : Byte) (s : State) : Host.Outcome State Fault Refusal :=
  complete (readInstr State.widthA (.dp off) opEor) s

/-- EOR #, opcode 0x49 (41_binary_read.md R143, 40_addressing_modes.md R111). -/
def execEorImm (v : Imm) (s : State) : Host.Outcome State Fault Refusal :=
  complete (immediateInstr State.widthA v opEor) s

/-- EOR a, opcode 0x4D (41_binary_read.md R143, 40_addressing_modes.md R114). -/
def execEorAbs (addr : Word) (s : State) : Host.Outcome State Fault Refusal :=
  complete (readInstr State.widthA (.abs addr) opEor) s

/-- EOR al, opcode 0x4F (41_binary_read.md R143, 40_addressing_modes.md R116). -/
def execEorLong (addr : Addr) (s : State) : Host.Outcome State Fault Refusal :=
  complete (readInstr State.widthA (.abl addr) opEor) s

/-- EOR (d),Y, opcode 0x51 (41_binary_read.md R143, 40_addressing_modes.md R118). -/
def execEorIndY (off : Byte) (s : State) : Host.Outcome State Fault Refusal :=
  complete (readInstr State.widthA (.iny off) opEor) s

/-- EOR (d), opcode 0x52 (41_binary_read.md R143, 40_addressing_modes.md R117). -/
def execEorInd (off : Byte) (s : State) : Host.Outcome State Fault Refusal :=
  complete (readInstr State.widthA (.ind off) opEor) s

/-- EOR d,X, opcode 0x55 (41_binary_read.md R143, 40_addressing_modes.md R113). -/
def execEorDpX (off : Byte) (s : State) : Host.Outcome State Fault Refusal :=
  complete (readInstr State.widthA (.dpx off) opEor) s

/-- EOR a,Y, opcode 0x59 (41_binary_read.md R143, 40_addressing_modes.md R115). -/
def execEorAbsY (addr : Word) (s : State) : Host.Outcome State Fault Refusal :=
  complete (readInstr State.widthA (.aby addr) opEor) s

/-- EOR a,X, opcode 0x5D (41_binary_read.md R143, 40_addressing_modes.md R115). -/
def execEorAbsX (addr : Word) (s : State) : Host.Outcome State Fault Refusal :=
  complete (readInstr State.widthA (.abx addr) opEor) s

/-- ADC s,S, opcode 0x63 (41_binary_read.md R144, 40_addressing_modes.md R119). -/
def execAdcSr (off : Byte) (s : State) : Host.Outcome State Fault Refusal :=
  complete (readInstr State.widthA (.sr off) opAdc) s

/-- ADC d, opcode 0x65 (41_binary_read.md R144, 40_addressing_modes.md R112). -/
def execAdcDp (off : Byte) (s : State) : Host.Outcome State Fault Refusal :=
  complete (readInstr State.widthA (.dp off) opAdc) s

/-- ADC #, opcode 0x69 (41_binary_read.md R144, 40_addressing_modes.md R111). -/
def execAdcImm (v : Imm) (s : State) : Host.Outcome State Fault Refusal :=
  complete (immediateInstr State.widthA v opAdc) s

/-- ADC a, opcode 0x6D (41_binary_read.md R144, 40_addressing_modes.md R114). -/
def execAdcAbs (addr : Word) (s : State) : Host.Outcome State Fault Refusal :=
  complete (readInstr State.widthA (.abs addr) opAdc) s

/-- ADC al, opcode 0x6F (41_binary_read.md R144, 40_addressing_modes.md R116). -/
def execAdcLong (addr : Addr) (s : State) : Host.Outcome State Fault Refusal :=
  complete (readInstr State.widthA (.abl addr) opAdc) s

/-- ADC (d),Y, opcode 0x71 (41_binary_read.md R144, 40_addressing_modes.md R118). -/
def execAdcIndY (off : Byte) (s : State) : Host.Outcome State Fault Refusal :=
  complete (readInstr State.widthA (.iny off) opAdc) s

/-- ADC (d), opcode 0x72 (41_binary_read.md R144, 40_addressing_modes.md R117). -/
def execAdcInd (off : Byte) (s : State) : Host.Outcome State Fault Refusal :=
  complete (readInstr State.widthA (.ind off) opAdc) s

/-- ADC d,X, opcode 0x75 (41_binary_read.md R144, 40_addressing_modes.md R113). -/
def execAdcDpX (off : Byte) (s : State) : Host.Outcome State Fault Refusal :=
  complete (readInstr State.widthA (.dpx off) opAdc) s

/-- ADC a,Y, opcode 0x79 (41_binary_read.md R144, 40_addressing_modes.md R115). -/
def execAdcAbsY (addr : Word) (s : State) : Host.Outcome State Fault Refusal :=
  complete (readInstr State.widthA (.aby addr) opAdc) s

/-- ADC a,X, opcode 0x7D (41_binary_read.md R144, 40_addressing_modes.md R115). -/
def execAdcAbsX (addr : Word) (s : State) : Host.Outcome State Fault Refusal :=
  complete (readInstr State.widthA (.abx addr) opAdc) s

/-- SBC s,S, opcode 0xE3 (41_binary_read.md R145, 40_addressing_modes.md R119). -/
def execSbcSr (off : Byte) (s : State) : Host.Outcome State Fault Refusal :=
  complete (readInstr State.widthA (.sr off) opSbc) s

/-- SBC d, opcode 0xE5 (41_binary_read.md R145, 40_addressing_modes.md R112). -/
def execSbcDp (off : Byte) (s : State) : Host.Outcome State Fault Refusal :=
  complete (readInstr State.widthA (.dp off) opSbc) s

/-- SBC #, opcode 0xE9 (41_binary_read.md R145, 40_addressing_modes.md R111). -/
def execSbcImm (v : Imm) (s : State) : Host.Outcome State Fault Refusal :=
  complete (immediateInstr State.widthA v opSbc) s

/-- SBC a, opcode 0xED (41_binary_read.md R145, 40_addressing_modes.md R114). -/
def execSbcAbs (addr : Word) (s : State) : Host.Outcome State Fault Refusal :=
  complete (readInstr State.widthA (.abs addr) opSbc) s

/-- SBC al, opcode 0xEF (41_binary_read.md R145, 40_addressing_modes.md R116). -/
def execSbcLong (addr : Addr) (s : State) : Host.Outcome State Fault Refusal :=
  complete (readInstr State.widthA (.abl addr) opSbc) s

/-- SBC (d),Y, opcode 0xF1 (41_binary_read.md R145, 40_addressing_modes.md R118). -/
def execSbcIndY (off : Byte) (s : State) : Host.Outcome State Fault Refusal :=
  complete (readInstr State.widthA (.iny off) opSbc) s

/-- SBC (d), opcode 0xF2 (41_binary_read.md R145, 40_addressing_modes.md R117). -/
def execSbcInd (off : Byte) (s : State) : Host.Outcome State Fault Refusal :=
  complete (readInstr State.widthA (.ind off) opSbc) s

/-- SBC d,X, opcode 0xF5 (41_binary_read.md R145, 40_addressing_modes.md R113). -/
def execSbcDpX (off : Byte) (s : State) : Host.Outcome State Fault Refusal :=
  complete (readInstr State.widthA (.dpx off) opSbc) s

/-- SBC a,Y, opcode 0xF9 (41_binary_read.md R145, 40_addressing_modes.md R115). -/
def execSbcAbsY (addr : Word) (s : State) : Host.Outcome State Fault Refusal :=
  complete (readInstr State.widthA (.aby addr) opSbc) s

/-- SBC a,X, opcode 0xFD (41_binary_read.md R145, 40_addressing_modes.md R115). -/
def execSbcAbsX (addr : Word) (s : State) : Host.Outcome State Fault Refusal :=
  complete (readInstr State.widthA (.abx addr) opSbc) s

/-- CMP s,S, opcode 0xC3 (41_binary_read.md R146, 40_addressing_modes.md R119). -/
def execCmpSr (off : Byte) (s : State) : Host.Outcome State Fault Refusal :=
  complete (readInstr State.widthA (.sr off) opCmp) s

/-- CMP d, opcode 0xC5 (41_binary_read.md R146, 40_addressing_modes.md R112). -/
def execCmpDp (off : Byte) (s : State) : Host.Outcome State Fault Refusal :=
  complete (readInstr State.widthA (.dp off) opCmp) s

/-- CMP #, opcode 0xC9 (41_binary_read.md R146, 40_addressing_modes.md R111). -/
def execCmpImm (v : Imm) (s : State) : Host.Outcome State Fault Refusal :=
  complete (immediateInstr State.widthA v opCmp) s

/-- CMP a, opcode 0xCD (41_binary_read.md R146, 40_addressing_modes.md R114). -/
def execCmpAbs (addr : Word) (s : State) : Host.Outcome State Fault Refusal :=
  complete (readInstr State.widthA (.abs addr) opCmp) s

/-- CMP al, opcode 0xCF (41_binary_read.md R146, 40_addressing_modes.md R116). -/
def execCmpLong (addr : Addr) (s : State) : Host.Outcome State Fault Refusal :=
  complete (readInstr State.widthA (.abl addr) opCmp) s

/-- CMP (d),Y, opcode 0xD1 (41_binary_read.md R146, 40_addressing_modes.md R118). -/
def execCmpIndY (off : Byte) (s : State) : Host.Outcome State Fault Refusal :=
  complete (readInstr State.widthA (.iny off) opCmp) s

/-- CMP (d), opcode 0xD2 (41_binary_read.md R146, 40_addressing_modes.md R117). -/
def execCmpInd (off : Byte) (s : State) : Host.Outcome State Fault Refusal :=
  complete (readInstr State.widthA (.ind off) opCmp) s

/-- CMP d,X, opcode 0xD5 (41_binary_read.md R146, 40_addressing_modes.md R113). -/
def execCmpDpX (off : Byte) (s : State) : Host.Outcome State Fault Refusal :=
  complete (readInstr State.widthA (.dpx off) opCmp) s

/-- CMP a,Y, opcode 0xD9 (41_binary_read.md R146, 40_addressing_modes.md R115). -/
def execCmpAbsY (addr : Word) (s : State) : Host.Outcome State Fault Refusal :=
  complete (readInstr State.widthA (.aby addr) opCmp) s

/-- CMP a,X, opcode 0xDD (41_binary_read.md R146, 40_addressing_modes.md R115). -/
def execCmpAbsX (addr : Word) (s : State) : Host.Outcome State Fault Refusal :=
  complete (readInstr State.widthA (.abx addr) opCmp) s

/-- CPX #, opcode 0xE0 (41_binary_read.md R147, 40_addressing_modes.md R111). -/
def execCpxImm (v : Imm) (s : State) : Host.Outcome State Fault Refusal :=
  complete (immediateInstr State.widthX v opCpx) s

/-- CPX d, opcode 0xE4 (41_binary_read.md R147, 40_addressing_modes.md R112). -/
def execCpxDp (off : Byte) (s : State) : Host.Outcome State Fault Refusal :=
  complete (readInstr State.widthX (.dp off) opCpx) s

/-- CPX a, opcode 0xEC (41_binary_read.md R147, 40_addressing_modes.md R114). -/
def execCpxAbs (addr : Word) (s : State) : Host.Outcome State Fault Refusal :=
  complete (readInstr State.widthX (.abs addr) opCpx) s

/-- CPY #, opcode 0xC0 (41_binary_read.md R148, 40_addressing_modes.md R111). -/
def execCpyImm (v : Imm) (s : State) : Host.Outcome State Fault Refusal :=
  complete (immediateInstr State.widthX v opCpy) s

/-- CPY d, opcode 0xC4 (41_binary_read.md R148, 40_addressing_modes.md R112). -/
def execCpyDp (off : Byte) (s : State) : Host.Outcome State Fault Refusal :=
  complete (readInstr State.widthX (.dp off) opCpy) s

/-- CPY a, opcode 0xCC (41_binary_read.md R148, 40_addressing_modes.md R114). -/
def execCpyAbs (addr : Word) (s : State) : Host.Outcome State Fault Refusal :=
  complete (readInstr State.widthX (.abs addr) opCpy) s

/-- BIT d, opcode 0x24 (41_binary_read.md R149, 40_addressing_modes.md R112). -/
def execBitDp (off : Byte) (s : State) : Host.Outcome State Fault Refusal :=
  complete (readInstr State.widthA (.dp off) opBit) s

/-- BIT a, opcode 0x2C (41_binary_read.md R149, 40_addressing_modes.md R114). -/
def execBitAbs (addr : Word) (s : State) : Host.Outcome State Fault Refusal :=
  complete (readInstr State.widthA (.abs addr) opBit) s

/-- BIT d,X, opcode 0x34 (41_binary_read.md R149, 40_addressing_modes.md R113). -/
def execBitDpX (off : Byte) (s : State) : Host.Outcome State Fault Refusal :=
  complete (readInstr State.widthA (.dpx off) opBit) s

/-- BIT a,X, opcode 0x3C (41_binary_read.md R149, 40_addressing_modes.md R115). -/
def execBitAbsX (addr : Word) (s : State) : Host.Outcome State Fault Refusal :=
  complete (readInstr State.widthA (.abx addr) opBit) s

/-- BIT #, opcode 0x89 (41_binary_read.md R149, 40_addressing_modes.md R111). -/
def execBitImm (v : Imm) (s : State) : Host.Outcome State Fault Refusal :=
  complete (immediateInstr State.widthA v opBitImm) s

end Sys2Proof.Machine
end

