-- ==== Sys2Proof/Machine/Branch.lean ====
section
/-! DEFINITION. The meanings of the branches (44_branch.md R220 to R229). -/

namespace Sys2Proof.Machine

open Sys2Proof

/-- A branch not taken (44_branch.md R220): `POLL`, then the displacement is fetched and discarded. -/
def branchNotTaken : Core Unit := do
  poll
  fetchOperand 1

/-- A branch taken (44_branch.md R220): one idle more across a page while E = 1; the target wraps within
the bank. -/
def branchTaken (disp : Byte) : Core Unit := do
  fetchOperand 1
  let s ← query id
  runIf (s.flags.e && highByte (s.regs.pc + signExt disp) != highByte s.regs.pc) busIdle
  poll
  busIdle
  update (State.setPC (s.regs.pc + signExt disp))

/-- The branch body (44_branch.md R220) with the predicate `take`. -/
def branchInstr (take : Flags → Bool) (disp : Byte) : Core Unit := do
  let _ ← fetch
  choose (fun s => take s.flags) (branchTaken disp) branchNotTaken

/-- BPL r, opcode 0x10 (44_branch.md R221, 40_addressing_modes.md R121). -/
def execBpl (disp : Byte) (s : State) : Host.Outcome State Fault Refusal :=
  complete (branchInstr (fun f => !f.n) disp) s

/-- BMI r, opcode 0x30 (44_branch.md R222, 40_addressing_modes.md R121). -/
def execBmi (disp : Byte) (s : State) : Host.Outcome State Fault Refusal :=
  complete (branchInstr (fun f => f.n) disp) s

/-- BVC r, opcode 0x50 (44_branch.md R223, 40_addressing_modes.md R121). -/
def execBvc (disp : Byte) (s : State) : Host.Outcome State Fault Refusal :=
  complete (branchInstr (fun f => !f.v) disp) s

/-- BVS r, opcode 0x70 (44_branch.md R224, 40_addressing_modes.md R121). -/
def execBvs (disp : Byte) (s : State) : Host.Outcome State Fault Refusal :=
  complete (branchInstr (fun f => f.v) disp) s

/-- BCC r, opcode 0x90 (44_branch.md R225, 40_addressing_modes.md R121). -/
def execBcc (disp : Byte) (s : State) : Host.Outcome State Fault Refusal :=
  complete (branchInstr (fun f => !f.c) disp) s

/-- BCS r, opcode 0xB0 (44_branch.md R226, 40_addressing_modes.md R121). -/
def execBcs (disp : Byte) (s : State) : Host.Outcome State Fault Refusal :=
  complete (branchInstr (fun f => f.c) disp) s

/-- BNE r, opcode 0xD0 (44_branch.md R227, 40_addressing_modes.md R121). -/
def execBne (disp : Byte) (s : State) : Host.Outcome State Fault Refusal :=
  complete (branchInstr (fun f => !f.z) disp) s

/-- BEQ r, opcode 0xF0 (44_branch.md R228, 40_addressing_modes.md R121). -/
def execBeq (disp : Byte) (s : State) : Host.Outcome State Fault Refusal :=
  complete (branchInstr (fun f => f.z) disp) s

/-- BRA r, opcode 0x80 (44_branch.md R229, 40_addressing_modes.md R121). -/
def execBra (disp : Byte) (s : State) : Host.Outcome State Fault Refusal :=
  complete (branchInstr (fun _ => true) disp) s

end Sys2Proof.Machine
end

