-- ==== Sys2Proof/Machine/Control.lean ====
section
/-! DEFINITION. The monolithic bodies: jumps, calls, returns, BRK, NOP, flag and mode instructions, pushes, pulls and block moves (45_control_stack_system.md R235 to R270). -/

namespace Sys2Proof.Machine

open Sys2Proof

/-- JMP abs (45_control_stack_system.md R236). -/
def jumpAbsolute (addr : Word) : Core Unit := do
  let _ ← fetch
  fetchOperand 1
  poll
  fetchOperand 1
  update (State.setPC addr)

/-- JMP (abs) (R237): the pointer lies in bank 0 and wraps there. -/
def jumpIndirect (addr : Word) : Core Unit := do
  let _ ← fetch
  fetchOperand 2
  let l ← busRead (bankAddr 0x00 addr)
  poll
  let h ← busRead (bankAddr 0x00 (addr + 1))
  update (State.setPC (joinBytes h l))

/-- JML (R238). -/
def jumpLongAbsolute (addr : Addr) : Core Unit := do
  let _ ← fetch
  fetchOperand 2
  poll
  fetchOperand 1
  update (State.jumpLong (bankOf addr) (offsetOf addr))

/-- JSR (R239): pushes the address of its own last byte. -/
def callSubroutine (addr : Word) : Core Unit := do
  let _ ← fetch
  fetchOperand 2
  busIdle
  let r ← query fun s => s.regs.pc - 1
  push (highByte r)
  poll
  push (lowByte r)
  update (State.setPC addr)

/-- JSL (R240): PBR is pushed before the bank byte is fetched; the pushes do not wrap. -/
def callSubroutineLong (addr : Addr) : Core Unit := do
  let _ ← fetch
  fetchOperand 2
  let b ← query fun s => s.regs.pbr
  pushN b
  busIdle
  fetchOperand 1
  let r ← query fun s => s.regs.pc - 1
  pushN (highByte r)
  poll
  pushN (lowByte r)
  fixS
  update (State.jumpLong (bankOf addr) (offsetOf addr))

/-- RTS (R241). -/
def returnSubroutine : Core Unit := do
  let _ ← fetch
  busIdle
  busIdle
  let lo ← pull
  let hi ← pull
  poll
  busIdle
  update (State.setPC (joinBytes hi lo + 1))

/-- RTL (R242): the pulls do not wrap. -/
def returnSubroutineLong : Core Unit := do
  let _ ← fetch
  busIdle
  busIdle
  let lo ← pullN
  let hi ← pullN
  poll
  let b ← pullN
  fixS
  update (State.jumpLong b (joinBytes hi lo + 1))

/-- RTI (R243). -/
def returnInterrupt : Core Unit := do
  let _ ← fetch
  returnFromException

/-- BRK (R244): the signature byte is fetched and ignored, then the exception is taken with
`break_flag` 1. -/
def softwareInterrupt (_sig : Byte) : Core Unit := do
  let _ ← fetch
  fetchOperand 1
  takeException none true

/-- REP and SEP (R253, R254): the mask byte, `POLL`, one idle, then the flags. -/
def maskInstr (effect : State → State) : Core Unit := do
  let _ ← fetch
  fetchOperand 1
  poll
  busIdle
  update effect

/-- What XCE does after its idle (R255): C and E exchange; entering emulation mode forces M and XF, clears
the index high bytes and puts S in page 1. -/
def State.exchangeCE (s : State) : State :=
  let t := { s with flags.c := s.flags.e, flags.e := s.flags.c }
  if s.flags.c then
    { t.clearIndexHigh with
      flags.m := true, flags.xf := true, regs.s := joinBytes 0x01 (lowByte s.regs.s) }
  else t

/-- The body of a push (section 4 of 45_control_stack_system.md) at width `w`, after the opcode fetch. -/
def pushValue (w : Width) (v : Word) : Core Unit :=
  match w with
  | .w8 => do
    busIdle
    poll
    push (lowByte v)
  | .w16 => do
    busIdle
    push (highByte v)
    poll
    push (lowByte v)

/-- A push of `value` at width `w`. -/
def pushInstr (w : State → Width) (value : State → Word) : Core Unit := do
  let _ ← fetch
  let n ← query w
  let v ← query value
  pushValue n v

/-- PHD (R262): 16 bits, with the non-wrapping push. -/
def pushDirect : Core Unit := do
  let _ ← fetch
  busIdle
  let d ← query fun s => s.regs.d
  pushN (highByte d)
  poll
  pushN (lowByte d)
  fixS

/-- The body of a pull (section 5 of 45_control_stack_system.md) at width `w`, after the opcode fetch. -/
def pullValue (w : Width) : Core Word :=
  match w with
  | .w8 => do
    busIdle
    busIdle
    poll
    let v ← pull
    pure (zeroExt v)
  | .w16 => do
    busIdle
    busIdle
    let lo ← pull
    poll
    let hi ← pull
    pure (joinBytes hi lo)

/-- A pull at width `w`, then its effect. -/
def pullInstr (w : State → Width) (op : ReadOp) : Core Unit := do
  let _ ← fetch
  let n ← query w
  let v ← pullValue n
  update (op n v)

/-- PLB (R267): 8 bits, with the non-wrapping pull. -/
def pullDataBank : Core Unit := do
  let _ ← fetch
  busIdle
  busIdle
  poll
  let b ← pullN
  fixS
  update fun s => { s with regs.dbr := b }.setNZ .w8 (zeroExt b)

/-- PLD (R268): 16 bits, with the non-wrapping pull. -/
def pullDirect : Core Unit := do
  let _ ← fetch
  busIdle
  busIdle
  let lo ← pullN
  poll
  let hi ← pullN
  fixS
  update fun s => { s with regs.d := joinBytes hi lo }.setNZ .w16 (joinBytes hi lo)

/-- One step of MVN (`step` 1) or MVP (`step` -1) (R269, R270): one byte moved; PC goes back to the opcode
unless A was 0. -/
def blockMove (dst src : Byte) (step : Word) : Core Unit := do
  let _ ← fetch
  fetchOperand 2
  update fun s => { s with regs.dbr := dst }
  let s ← query id
  let v ← busRead (bankAddr src s.regs.x)
  busWrite (bankAddr dst s.regs.y) v
  busIdle
  update fun t => (t.setX (t.regs.x + step)).setY (t.regs.y + step)
  poll
  busIdle
  update fun t =>
    { t with
      regs.pc := if t.regs.a != 0 then t.regs.pc - 3 else t.regs.pc
      regs.a := t.regs.a - 1 }

/-- JMP a, opcode 0x4C (45_control_stack_system.md R236). -/
def execJmpAbs (addr : Word) (s : State) : Host.Outcome State Fault Refusal :=
  complete (jumpAbsolute addr) s

/-- JMP (a), opcode 0x6C (45_control_stack_system.md R237). -/
def execJmpInd (addr : Word) (s : State) : Host.Outcome State Fault Refusal :=
  complete (jumpIndirect addr) s

/-- JML al, opcode 0x5C (45_control_stack_system.md R238). -/
def execJml (addr : Addr) (s : State) : Host.Outcome State Fault Refusal :=
  complete (jumpLongAbsolute addr) s

/-- JSR a, opcode 0x20 (45_control_stack_system.md R239). -/
def execJsr (addr : Word) (s : State) : Host.Outcome State Fault Refusal :=
  complete (callSubroutine addr) s

/-- JSL al, opcode 0x22 (45_control_stack_system.md R240). -/
def execJsl (addr : Addr) (s : State) : Host.Outcome State Fault Refusal :=
  complete (callSubroutineLong addr) s

/-- RTS, opcode 0x60 (45_control_stack_system.md R241). -/
def execRts (s : State) : Host.Outcome State Fault Refusal :=
  complete returnSubroutine s

/-- RTL, opcode 0x6B (45_control_stack_system.md R242). -/
def execRtl (s : State) : Host.Outcome State Fault Refusal :=
  complete returnSubroutineLong s

/-- RTI, opcode 0x40 (45_control_stack_system.md R243). -/
def execRti (s : State) : Host.Outcome State Fault Refusal :=
  complete returnInterrupt s

/-- BRK, opcode 0x00 (45_control_stack_system.md R244). -/
def execBrk (sig : Byte) (s : State) : Host.Outcome State Fault Refusal :=
  complete (softwareInterrupt sig) s

/-- NOP, opcode 0xEA (45_control_stack_system.md R245). -/
def execNop (s : State) : Host.Outcome State Fault Refusal :=
  complete (impliedInstr id) s

/-- CLC, opcode 0x18 (45_control_stack_system.md R246). -/
def execClc (s : State) : Host.Outcome State Fault Refusal :=
  complete (impliedInstr (State.setC false)) s

/-- SEC, opcode 0x38 (45_control_stack_system.md R247). -/
def execSec (s : State) : Host.Outcome State Fault Refusal :=
  complete (impliedInstr (State.setC true)) s

/-- CLI, opcode 0x58 (45_control_stack_system.md R248). -/
def execCli (s : State) : Host.Outcome State Fault Refusal :=
  complete (impliedInstr fun t => { t with flags.i := false }) s

/-- SEI, opcode 0x78 (45_control_stack_system.md R249). -/
def execSei (s : State) : Host.Outcome State Fault Refusal :=
  complete (impliedInstr fun t => { t with flags.i := true }) s

/-- CLV, opcode 0xB8 (45_control_stack_system.md R250). -/
def execClv (s : State) : Host.Outcome State Fault Refusal :=
  complete (impliedInstr fun t => { t with flags.v := false }) s

/-- CLD, opcode 0xD8 (45_control_stack_system.md R251). -/
def execCld (s : State) : Host.Outcome State Fault Refusal :=
  complete (impliedInstr fun t => { t with flags.df := false }) s

/-- SED, opcode 0xF8 (45_control_stack_system.md R252). -/
def execSed (s : State) : Host.Outcome State Fault Refusal :=
  complete (impliedInstr fun t => { t with flags.df := true }) s

/-- REP #, opcode 0xC2 (45_control_stack_system.md R253). -/
def execRep (mask : Byte) (s : State) : Host.Outcome State Fault Refusal :=
  complete (maskInstr fun t => t.loadFlags (flagsToByte true t.flags &&& ~~~mask)) s

/-- SEP #, opcode 0xE2 (45_control_stack_system.md R254). -/
def execSep (mask : Byte) (s : State) : Host.Outcome State Fault Refusal :=
  complete (maskInstr fun t => t.loadFlags (flagsToByte true t.flags ||| mask)) s

/-- XCE, opcode 0xFB (45_control_stack_system.md R255). -/
def execXce (s : State) : Host.Outcome State Fault Refusal :=
  complete (impliedInstr State.exchangeCE) s

/-- PHA, opcode 0x48 (45_control_stack_system.md R256). -/
def execPha (s : State) : Host.Outcome State Fault Refusal :=
  complete (pushInstr State.widthA State.getA) s

/-- PHX, opcode 0xDA (45_control_stack_system.md R257). -/
def execPhx (s : State) : Host.Outcome State Fault Refusal :=
  complete (pushInstr State.widthX (fun t => t.widthX.trunc t.regs.x)) s

/-- PHY, opcode 0x5A (45_control_stack_system.md R258). -/
def execPhy (s : State) : Host.Outcome State Fault Refusal :=
  complete (pushInstr State.widthX (fun t => t.widthX.trunc t.regs.y)) s

/-- PHP, opcode 0x08 (45_control_stack_system.md R259). -/
def execPhp (s : State) : Host.Outcome State Fault Refusal :=
  complete (pushInstr (fun _ => .w8) (fun t => zeroExt (flagsToByte true t.flags))) s

/-- PHB, opcode 0x8B (45_control_stack_system.md R260). -/
def execPhb (s : State) : Host.Outcome State Fault Refusal :=
  complete (pushInstr (fun _ => .w8) (fun t => zeroExt t.regs.dbr)) s

/-- PHK, opcode 0x4B (45_control_stack_system.md R261). -/
def execPhk (s : State) : Host.Outcome State Fault Refusal :=
  complete (pushInstr (fun _ => .w8) (fun t => zeroExt t.regs.pbr)) s

/-- PHD, opcode 0x0B (45_control_stack_system.md R262). -/
def execPhd (s : State) : Host.Outcome State Fault Refusal :=
  complete pushDirect s

/-- PLA, opcode 0x68 (45_control_stack_system.md R263). -/
def execPla (s : State) : Host.Outcome State Fault Refusal :=
  complete (pullInstr State.widthA opLda) s

/-- PLX, opcode 0xFA (45_control_stack_system.md R264). -/
def execPlx (s : State) : Host.Outcome State Fault Refusal :=
  complete (pullInstr State.widthX opLdx) s

/-- PLY, opcode 0x7A (45_control_stack_system.md R265). -/
def execPly (s : State) : Host.Outcome State Fault Refusal :=
  complete (pullInstr State.widthX opLdy) s

/-- PLP, opcode 0x28 (45_control_stack_system.md R266). -/
def execPlp (s : State) : Host.Outcome State Fault Refusal :=
  complete (pullInstr (fun _ => .w8) fun _ v t => t.loadFlags (lowByte v)) s

/-- PLB, opcode 0xAB (45_control_stack_system.md R267). -/
def execPlb (s : State) : Host.Outcome State Fault Refusal :=
  complete pullDataBank s

/-- PLD, opcode 0x2B (45_control_stack_system.md R268). -/
def execPld (s : State) : Host.Outcome State Fault Refusal :=
  complete pullDirect s

/-- MVN src,dst, opcode 0x54 (45_control_stack_system.md R269, 40_addressing_modes.md R122). -/
def execMvn (dst : Byte) (src : Byte) (s : State) : Host.Outcome State Fault Refusal :=
  complete (blockMove dst src 1) s

/-- MVP src,dst, opcode 0x44 (45_control_stack_system.md R270, 40_addressing_modes.md R122). -/
def execMvp (dst : Byte) (src : Byte) (s : State) : Host.Outcome State Fault Refusal :=
  complete (blockMove dst src (-1)) s

end Sys2Proof.Machine
end

