-- ==== Sys2Proof/Machine/Modify.lean ====
section
/-! DEFINITION. The meanings of the shifts, rotates, increments, decrements, TSB and TRB (43_modify.md R200 to R212). -/

namespace Sys2Proof.Machine

open Sys2Proof

/-- ASL d, opcode 0x06 (43_modify.md R201, 40_addressing_modes.md R112). -/
def execAslDp (off : Byte) (s : State) : Host.Outcome State Fault Refusal :=
  complete (modifyInstr (.dp off) opAsl) s

/-- ASL A, opcode 0x0A (43_modify.md R201, 40_addressing_modes.md R120). -/
def execAslAcc (s : State) : Host.Outcome State Fault Refusal :=
  complete (accumulatorInstr opAsl) s

/-- ASL a, opcode 0x0E (43_modify.md R201, 40_addressing_modes.md R114). -/
def execAslAbs (addr : Word) (s : State) : Host.Outcome State Fault Refusal :=
  complete (modifyInstr (.abs addr) opAsl) s

/-- ASL d,X, opcode 0x16 (43_modify.md R201, 40_addressing_modes.md R113). -/
def execAslDpX (off : Byte) (s : State) : Host.Outcome State Fault Refusal :=
  complete (modifyInstr (.dpx off) opAsl) s

/-- ASL a,X, opcode 0x1E (43_modify.md R201, 40_addressing_modes.md R115). -/
def execAslAbsX (addr : Word) (s : State) : Host.Outcome State Fault Refusal :=
  complete (modifyInstr (.abx addr) opAsl) s

/-- LSR d, opcode 0x46 (43_modify.md R202, 40_addressing_modes.md R112). -/
def execLsrDp (off : Byte) (s : State) : Host.Outcome State Fault Refusal :=
  complete (modifyInstr (.dp off) opLsr) s

/-- LSR A, opcode 0x4A (43_modify.md R202, 40_addressing_modes.md R120). -/
def execLsrAcc (s : State) : Host.Outcome State Fault Refusal :=
  complete (accumulatorInstr opLsr) s

/-- LSR a, opcode 0x4E (43_modify.md R202, 40_addressing_modes.md R114). -/
def execLsrAbs (addr : Word) (s : State) : Host.Outcome State Fault Refusal :=
  complete (modifyInstr (.abs addr) opLsr) s

/-- LSR d,X, opcode 0x56 (43_modify.md R202, 40_addressing_modes.md R113). -/
def execLsrDpX (off : Byte) (s : State) : Host.Outcome State Fault Refusal :=
  complete (modifyInstr (.dpx off) opLsr) s

/-- LSR a,X, opcode 0x5E (43_modify.md R202, 40_addressing_modes.md R115). -/
def execLsrAbsX (addr : Word) (s : State) : Host.Outcome State Fault Refusal :=
  complete (modifyInstr (.abx addr) opLsr) s

/-- ROL d, opcode 0x26 (43_modify.md R203, 40_addressing_modes.md R112). -/
def execRolDp (off : Byte) (s : State) : Host.Outcome State Fault Refusal :=
  complete (modifyInstr (.dp off) opRol) s

/-- ROL A, opcode 0x2A (43_modify.md R203, 40_addressing_modes.md R120). -/
def execRolAcc (s : State) : Host.Outcome State Fault Refusal :=
  complete (accumulatorInstr opRol) s

/-- ROL a, opcode 0x2E (43_modify.md R203, 40_addressing_modes.md R114). -/
def execRolAbs (addr : Word) (s : State) : Host.Outcome State Fault Refusal :=
  complete (modifyInstr (.abs addr) opRol) s

/-- ROL d,X, opcode 0x36 (43_modify.md R203, 40_addressing_modes.md R113). -/
def execRolDpX (off : Byte) (s : State) : Host.Outcome State Fault Refusal :=
  complete (modifyInstr (.dpx off) opRol) s

/-- ROL a,X, opcode 0x3E (43_modify.md R203, 40_addressing_modes.md R115). -/
def execRolAbsX (addr : Word) (s : State) : Host.Outcome State Fault Refusal :=
  complete (modifyInstr (.abx addr) opRol) s

/-- ROR d, opcode 0x66 (43_modify.md R204, 40_addressing_modes.md R112). -/
def execRorDp (off : Byte) (s : State) : Host.Outcome State Fault Refusal :=
  complete (modifyInstr (.dp off) opRor) s

/-- ROR A, opcode 0x6A (43_modify.md R204, 40_addressing_modes.md R120). -/
def execRorAcc (s : State) : Host.Outcome State Fault Refusal :=
  complete (accumulatorInstr opRor) s

/-- ROR a, opcode 0x6E (43_modify.md R204, 40_addressing_modes.md R114). -/
def execRorAbs (addr : Word) (s : State) : Host.Outcome State Fault Refusal :=
  complete (modifyInstr (.abs addr) opRor) s

/-- ROR d,X, opcode 0x76 (43_modify.md R204, 40_addressing_modes.md R113). -/
def execRorDpX (off : Byte) (s : State) : Host.Outcome State Fault Refusal :=
  complete (modifyInstr (.dpx off) opRor) s

/-- ROR a,X, opcode 0x7E (43_modify.md R204, 40_addressing_modes.md R115). -/
def execRorAbsX (addr : Word) (s : State) : Host.Outcome State Fault Refusal :=
  complete (modifyInstr (.abx addr) opRor) s

/-- INC A, opcode 0x1A (43_modify.md R205, 40_addressing_modes.md R120). -/
def execIncAcc (s : State) : Host.Outcome State Fault Refusal :=
  complete (accumulatorInstr opInc) s

/-- INC d, opcode 0xE6 (43_modify.md R205, 40_addressing_modes.md R112). -/
def execIncDp (off : Byte) (s : State) : Host.Outcome State Fault Refusal :=
  complete (modifyInstr (.dp off) opInc) s

/-- INC a, opcode 0xEE (43_modify.md R205, 40_addressing_modes.md R114). -/
def execIncAbs (addr : Word) (s : State) : Host.Outcome State Fault Refusal :=
  complete (modifyInstr (.abs addr) opInc) s

/-- INC d,X, opcode 0xF6 (43_modify.md R205, 40_addressing_modes.md R113). -/
def execIncDpX (off : Byte) (s : State) : Host.Outcome State Fault Refusal :=
  complete (modifyInstr (.dpx off) opInc) s

/-- INC a,X, opcode 0xFE (43_modify.md R205, 40_addressing_modes.md R115). -/
def execIncAbsX (addr : Word) (s : State) : Host.Outcome State Fault Refusal :=
  complete (modifyInstr (.abx addr) opInc) s

/-- DEC A, opcode 0x3A (43_modify.md R206, 40_addressing_modes.md R120). -/
def execDecAcc (s : State) : Host.Outcome State Fault Refusal :=
  complete (accumulatorInstr opDec) s

/-- DEC d, opcode 0xC6 (43_modify.md R206, 40_addressing_modes.md R112). -/
def execDecDp (off : Byte) (s : State) : Host.Outcome State Fault Refusal :=
  complete (modifyInstr (.dp off) opDec) s

/-- DEC a, opcode 0xCE (43_modify.md R206, 40_addressing_modes.md R114). -/
def execDecAbs (addr : Word) (s : State) : Host.Outcome State Fault Refusal :=
  complete (modifyInstr (.abs addr) opDec) s

/-- DEC d,X, opcode 0xD6 (43_modify.md R206, 40_addressing_modes.md R113). -/
def execDecDpX (off : Byte) (s : State) : Host.Outcome State Fault Refusal :=
  complete (modifyInstr (.dpx off) opDec) s

/-- DEC a,X, opcode 0xDE (43_modify.md R206, 40_addressing_modes.md R115). -/
def execDecAbsX (addr : Word) (s : State) : Host.Outcome State Fault Refusal :=
  complete (modifyInstr (.abx addr) opDec) s

/-- INX, opcode 0xE8 (43_modify.md R207, 40_addressing_modes.md R120). -/
def execInx (s : State) : Host.Outcome State Fault Refusal :=
  complete (impliedInstr fun t => t.setXNZ (t.regs.x + 1)) s

/-- INY, opcode 0xC8 (43_modify.md R208, 40_addressing_modes.md R120). -/
def execIny (s : State) : Host.Outcome State Fault Refusal :=
  complete (impliedInstr fun t => t.setYNZ (t.regs.y + 1)) s

/-- DEX, opcode 0xCA (43_modify.md R209, 40_addressing_modes.md R120). -/
def execDex (s : State) : Host.Outcome State Fault Refusal :=
  complete (impliedInstr fun t => t.setXNZ (t.regs.x - 1)) s

/-- DEY, opcode 0x88 (43_modify.md R210, 40_addressing_modes.md R120). -/
def execDey (s : State) : Host.Outcome State Fault Refusal :=
  complete (impliedInstr fun t => t.setYNZ (t.regs.y - 1)) s

/-- TSB d, opcode 0x04 (43_modify.md R211, 40_addressing_modes.md R112). -/
def execTsbDp (off : Byte) (s : State) : Host.Outcome State Fault Refusal :=
  complete (modifyInstr (.dp off) opTsb) s

/-- TSB a, opcode 0x0C (43_modify.md R211, 40_addressing_modes.md R114). -/
def execTsbAbs (addr : Word) (s : State) : Host.Outcome State Fault Refusal :=
  complete (modifyInstr (.abs addr) opTsb) s

/-- TRB d, opcode 0x14 (43_modify.md R212, 40_addressing_modes.md R112). -/
def execTrbDp (off : Byte) (s : State) : Host.Outcome State Fault Refusal :=
  complete (modifyInstr (.dp off) opTrb) s

/-- TRB a, opcode 0x1C (43_modify.md R212, 40_addressing_modes.md R114). -/
def execTrbAbs (addr : Word) (s : State) : Host.Outcome State Fault Refusal :=
  complete (modifyInstr (.abs addr) opTrb) s

end Sys2Proof.Machine
end

