-- ==== Sys2Proof/Machine/MoveLoad.lean ====
section
/-! DEFINITION. The meanings of the loads, the stores and the register transfers (42_move_load.md R160 to R182). -/

namespace Sys2Proof.Machine

open Sys2Proof

/-- XBA (42_move_load.md R182): two idles, `POLL` between them; N and Z at 8 bits from the new low byte. -/
def exchangeBytes : Core Unit := do
  let _ ← fetch
  busIdle
  poll
  busIdle
  update fun s =>
    { s with regs.a := joinBytes (lowByte s.regs.a) (highByte s.regs.a) }.setNZ .w8
      (zeroExt (highByte s.regs.a))

/-- LDA s,S, opcode 0xA3 (42_move_load.md R161, 40_addressing_modes.md R119). -/
def execLdaSr (off : Byte) (s : State) : Host.Outcome State Fault Refusal :=
  complete (readInstr State.widthA (.sr off) opLda) s

/-- LDA d, opcode 0xA5 (42_move_load.md R161, 40_addressing_modes.md R112). -/
def execLdaDp (off : Byte) (s : State) : Host.Outcome State Fault Refusal :=
  complete (readInstr State.widthA (.dp off) opLda) s

/-- LDA #, opcode 0xA9 (42_move_load.md R161, 40_addressing_modes.md R111). -/
def execLdaImm (v : Imm) (s : State) : Host.Outcome State Fault Refusal :=
  complete (immediateInstr State.widthA v opLda) s

/-- LDA a, opcode 0xAD (42_move_load.md R161, 40_addressing_modes.md R114). -/
def execLdaAbs (addr : Word) (s : State) : Host.Outcome State Fault Refusal :=
  complete (readInstr State.widthA (.abs addr) opLda) s

/-- LDA al, opcode 0xAF (42_move_load.md R161, 40_addressing_modes.md R116). -/
def execLdaLong (addr : Addr) (s : State) : Host.Outcome State Fault Refusal :=
  complete (readInstr State.widthA (.abl addr) opLda) s

/-- LDA (d),Y, opcode 0xB1 (42_move_load.md R161, 40_addressing_modes.md R118). -/
def execLdaIndY (off : Byte) (s : State) : Host.Outcome State Fault Refusal :=
  complete (readInstr State.widthA (.iny off) opLda) s

/-- LDA (d), opcode 0xB2 (42_move_load.md R161, 40_addressing_modes.md R117). -/
def execLdaInd (off : Byte) (s : State) : Host.Outcome State Fault Refusal :=
  complete (readInstr State.widthA (.ind off) opLda) s

/-- LDA d,X, opcode 0xB5 (42_move_load.md R161, 40_addressing_modes.md R113). -/
def execLdaDpX (off : Byte) (s : State) : Host.Outcome State Fault Refusal :=
  complete (readInstr State.widthA (.dpx off) opLda) s

/-- LDA a,Y, opcode 0xB9 (42_move_load.md R161, 40_addressing_modes.md R115). -/
def execLdaAbsY (addr : Word) (s : State) : Host.Outcome State Fault Refusal :=
  complete (readInstr State.widthA (.aby addr) opLda) s

/-- LDA a,X, opcode 0xBD (42_move_load.md R161, 40_addressing_modes.md R115). -/
def execLdaAbsX (addr : Word) (s : State) : Host.Outcome State Fault Refusal :=
  complete (readInstr State.widthA (.abx addr) opLda) s

/-- LDX #, opcode 0xA2 (42_move_load.md R162, 40_addressing_modes.md R111). -/
def execLdxImm (v : Imm) (s : State) : Host.Outcome State Fault Refusal :=
  complete (immediateInstr State.widthX v opLdx) s

/-- LDX d, opcode 0xA6 (42_move_load.md R162, 40_addressing_modes.md R112). -/
def execLdxDp (off : Byte) (s : State) : Host.Outcome State Fault Refusal :=
  complete (readInstr State.widthX (.dp off) opLdx) s

/-- LDX a, opcode 0xAE (42_move_load.md R162, 40_addressing_modes.md R114). -/
def execLdxAbs (addr : Word) (s : State) : Host.Outcome State Fault Refusal :=
  complete (readInstr State.widthX (.abs addr) opLdx) s

/-- LDX d,Y, opcode 0xB6 (42_move_load.md R162, 40_addressing_modes.md R113). -/
def execLdxDpY (off : Byte) (s : State) : Host.Outcome State Fault Refusal :=
  complete (readInstr State.widthX (.dpy off) opLdx) s

/-- LDX a,Y, opcode 0xBE (42_move_load.md R162, 40_addressing_modes.md R115). -/
def execLdxAbsY (addr : Word) (s : State) : Host.Outcome State Fault Refusal :=
  complete (readInstr State.widthX (.aby addr) opLdx) s

/-- LDY #, opcode 0xA0 (42_move_load.md R163, 40_addressing_modes.md R111). -/
def execLdyImm (v : Imm) (s : State) : Host.Outcome State Fault Refusal :=
  complete (immediateInstr State.widthX v opLdy) s

/-- LDY d, opcode 0xA4 (42_move_load.md R163, 40_addressing_modes.md R112). -/
def execLdyDp (off : Byte) (s : State) : Host.Outcome State Fault Refusal :=
  complete (readInstr State.widthX (.dp off) opLdy) s

/-- LDY a, opcode 0xAC (42_move_load.md R163, 40_addressing_modes.md R114). -/
def execLdyAbs (addr : Word) (s : State) : Host.Outcome State Fault Refusal :=
  complete (readInstr State.widthX (.abs addr) opLdy) s

/-- LDY d,X, opcode 0xB4 (42_move_load.md R163, 40_addressing_modes.md R113). -/
def execLdyDpX (off : Byte) (s : State) : Host.Outcome State Fault Refusal :=
  complete (readInstr State.widthX (.dpx off) opLdy) s

/-- LDY a,X, opcode 0xBC (42_move_load.md R163, 40_addressing_modes.md R115). -/
def execLdyAbsX (addr : Word) (s : State) : Host.Outcome State Fault Refusal :=
  complete (readInstr State.widthX (.abx addr) opLdy) s

/-- STA s,S, opcode 0x83 (42_move_load.md R164, 40_addressing_modes.md R119). -/
def execStaSr (off : Byte) (s : State) : Host.Outcome State Fault Refusal :=
  complete (storeInstr State.widthA (.sr off) State.getA) s

/-- STA d, opcode 0x85 (42_move_load.md R164, 40_addressing_modes.md R112). -/
def execStaDp (off : Byte) (s : State) : Host.Outcome State Fault Refusal :=
  complete (storeInstr State.widthA (.dp off) State.getA) s

/-- STA a, opcode 0x8D (42_move_load.md R164, 40_addressing_modes.md R114). -/
def execStaAbs (addr : Word) (s : State) : Host.Outcome State Fault Refusal :=
  complete (storeInstr State.widthA (.abs addr) State.getA) s

/-- STA al, opcode 0x8F (42_move_load.md R164, 40_addressing_modes.md R116). -/
def execStaLong (addr : Addr) (s : State) : Host.Outcome State Fault Refusal :=
  complete (storeInstr State.widthA (.abl addr) State.getA) s

/-- STA (d),Y, opcode 0x91 (42_move_load.md R164, 40_addressing_modes.md R118). -/
def execStaIndY (off : Byte) (s : State) : Host.Outcome State Fault Refusal :=
  complete (storeInstr State.widthA (.iny off) State.getA) s

/-- STA (d), opcode 0x92 (42_move_load.md R164, 40_addressing_modes.md R117). -/
def execStaInd (off : Byte) (s : State) : Host.Outcome State Fault Refusal :=
  complete (storeInstr State.widthA (.ind off) State.getA) s

/-- STA d,X, opcode 0x95 (42_move_load.md R164, 40_addressing_modes.md R113). -/
def execStaDpX (off : Byte) (s : State) : Host.Outcome State Fault Refusal :=
  complete (storeInstr State.widthA (.dpx off) State.getA) s

/-- STA a,Y, opcode 0x99 (42_move_load.md R164, 40_addressing_modes.md R115). -/
def execStaAbsY (addr : Word) (s : State) : Host.Outcome State Fault Refusal :=
  complete (storeInstr State.widthA (.aby addr) State.getA) s

/-- STA a,X, opcode 0x9D (42_move_load.md R164, 40_addressing_modes.md R115). -/
def execStaAbsX (addr : Word) (s : State) : Host.Outcome State Fault Refusal :=
  complete (storeInstr State.widthA (.abx addr) State.getA) s

/-- STX d, opcode 0x86 (42_move_load.md R165, 40_addressing_modes.md R112). -/
def execStxDp (off : Byte) (s : State) : Host.Outcome State Fault Refusal :=
  complete (storeInstr State.widthX (.dp off) (fun s => s.widthX.trunc s.regs.x)) s

/-- STX a, opcode 0x8E (42_move_load.md R165, 40_addressing_modes.md R114). -/
def execStxAbs (addr : Word) (s : State) : Host.Outcome State Fault Refusal :=
  complete (storeInstr State.widthX (.abs addr) (fun s => s.widthX.trunc s.regs.x)) s

/-- STX d,Y, opcode 0x96 (42_move_load.md R165, 40_addressing_modes.md R113). -/
def execStxDpY (off : Byte) (s : State) : Host.Outcome State Fault Refusal :=
  complete (storeInstr State.widthX (.dpy off) (fun s => s.widthX.trunc s.regs.x)) s

/-- STY d, opcode 0x84 (42_move_load.md R166, 40_addressing_modes.md R112). -/
def execStyDp (off : Byte) (s : State) : Host.Outcome State Fault Refusal :=
  complete (storeInstr State.widthX (.dp off) (fun s => s.widthX.trunc s.regs.y)) s

/-- STY a, opcode 0x8C (42_move_load.md R166, 40_addressing_modes.md R114). -/
def execStyAbs (addr : Word) (s : State) : Host.Outcome State Fault Refusal :=
  complete (storeInstr State.widthX (.abs addr) (fun s => s.widthX.trunc s.regs.y)) s

/-- STY d,X, opcode 0x94 (42_move_load.md R166, 40_addressing_modes.md R113). -/
def execStyDpX (off : Byte) (s : State) : Host.Outcome State Fault Refusal :=
  complete (storeInstr State.widthX (.dpx off) (fun s => s.widthX.trunc s.regs.y)) s

/-- STZ d, opcode 0x64 (42_move_load.md R167, 40_addressing_modes.md R112). -/
def execStzDp (off : Byte) (s : State) : Host.Outcome State Fault Refusal :=
  complete (storeInstr State.widthA (.dp off) (fun _ => 0)) s

/-- STZ d,X, opcode 0x74 (42_move_load.md R167, 40_addressing_modes.md R113). -/
def execStzDpX (off : Byte) (s : State) : Host.Outcome State Fault Refusal :=
  complete (storeInstr State.widthA (.dpx off) (fun _ => 0)) s

/-- STZ a, opcode 0x9C (42_move_load.md R167, 40_addressing_modes.md R114). -/
def execStzAbs (addr : Word) (s : State) : Host.Outcome State Fault Refusal :=
  complete (storeInstr State.widthA (.abs addr) (fun _ => 0)) s

/-- STZ a,X, opcode 0x9E (42_move_load.md R167, 40_addressing_modes.md R115). -/
def execStzAbsX (addr : Word) (s : State) : Host.Outcome State Fault Refusal :=
  complete (storeInstr State.widthA (.abx addr) (fun _ => 0)) s

/-- TAX, opcode 0xAA (42_move_load.md R170, 40_addressing_modes.md R120). -/
def execTax (s : State) : Host.Outcome State Fault Refusal :=
  complete (impliedInstr fun t => t.setXNZ t.regs.a) s

/-- TAY, opcode 0xA8 (42_move_load.md R171, 40_addressing_modes.md R120). -/
def execTay (s : State) : Host.Outcome State Fault Refusal :=
  complete (impliedInstr fun t => t.setYNZ t.regs.a) s

/-- TXA, opcode 0x8A (42_move_load.md R172, 40_addressing_modes.md R120). -/
def execTxa (s : State) : Host.Outcome State Fault Refusal :=
  complete (impliedInstr fun t => t.setANZ t.widthA (t.widthA.trunc t.regs.x)) s

/-- TYA, opcode 0x98 (42_move_load.md R173, 40_addressing_modes.md R120). -/
def execTya (s : State) : Host.Outcome State Fault Refusal :=
  complete (impliedInstr fun t => t.setANZ t.widthA (t.widthA.trunc t.regs.y)) s

/-- TXS, opcode 0x9A (42_move_load.md R174, 40_addressing_modes.md R120): no flag. -/
def execTxs (s : State) : Host.Outcome State Fault Refusal :=
  complete (impliedInstr fun t => t.setS t.regs.x) s

/-- TSX, opcode 0xBA (42_move_load.md R175, 40_addressing_modes.md R120). -/
def execTsx (s : State) : Host.Outcome State Fault Refusal :=
  complete (impliedInstr fun t => t.setXNZ t.regs.s) s

/-- TXY, opcode 0x9B (42_move_load.md R176, 40_addressing_modes.md R120). -/
def execTxy (s : State) : Host.Outcome State Fault Refusal :=
  complete (impliedInstr fun t => t.setYNZ t.regs.x) s

/-- TYX, opcode 0xBB (42_move_load.md R177, 40_addressing_modes.md R120). -/
def execTyx (s : State) : Host.Outcome State Fault Refusal :=
  complete (impliedInstr fun t => t.setXNZ t.regs.y) s

/-- TCD, opcode 0x5B (42_move_load.md R178, 40_addressing_modes.md R120): always 16 bits. -/
def execTcd (s : State) : Host.Outcome State Fault Refusal :=
  complete (impliedInstr fun t => { t with regs.d := t.regs.a }.setNZ .w16 t.regs.a) s

/-- TDC, opcode 0x7B (42_move_load.md R179, 40_addressing_modes.md R120): always 16 bits. -/
def execTdc (s : State) : Host.Outcome State Fault Refusal :=
  complete (impliedInstr fun t => { t with regs.a := t.regs.d }.setNZ .w16 t.regs.d) s

/-- TCS, opcode 0x1B (42_move_load.md R180, 40_addressing_modes.md R120): no flag. -/
def execTcs (s : State) : Host.Outcome State Fault Refusal :=
  complete (impliedInstr fun t => t.setS t.regs.a) s

/-- TSC, opcode 0x3B (42_move_load.md R181, 40_addressing_modes.md R120): always 16 bits. -/
def execTsc (s : State) : Host.Outcome State Fault Refusal :=
  complete (impliedInstr fun t => { t with regs.a := t.regs.s }.setNZ .w16 t.regs.s) s

/-- XBA, opcode 0xEB (42_move_load.md R182, 40_addressing_modes.md R120): N and Z from the new low byte. -/
def execXba (s : State) : Host.Outcome State Fault Refusal :=
  complete exchangeBytes s

end Sys2Proof.Machine
end

