-- ==== Sys2Proof/Machine/Dispatch.lean ====
section
/-! DEFINITION. The dispatcher (60_exceptions.md R300 step 6): one arm per instruction, each one direct call
of its meaning. A meaning runs the whole step of its instruction, the opcode fetch included. -/

namespace Sys2Proof.Machine

open Sys2Proof

def exec (i : Instr) (s : State) : Host.Outcome State Fault Refusal :=
  match i with
  | .brk sig => Sys2Proof.Machine.execBrk sig s
  | .oraSr off => Sys2Proof.Machine.execOraSr off s
  | .tsbDp off => Sys2Proof.Machine.execTsbDp off s
  | .oraDp off => Sys2Proof.Machine.execOraDp off s
  | .aslDp off => Sys2Proof.Machine.execAslDp off s
  | .php => Sys2Proof.Machine.execPhp s
  | .oraImm v => Sys2Proof.Machine.execOraImm v s
  | .aslAcc => Sys2Proof.Machine.execAslAcc s
  | .phd => Sys2Proof.Machine.execPhd s
  | .tsbAbs addr => Sys2Proof.Machine.execTsbAbs addr s
  | .oraAbs addr => Sys2Proof.Machine.execOraAbs addr s
  | .aslAbs addr => Sys2Proof.Machine.execAslAbs addr s
  | .oraLong addr => Sys2Proof.Machine.execOraLong addr s
  | .bpl disp => Sys2Proof.Machine.execBpl disp s
  | .oraIndY off => Sys2Proof.Machine.execOraIndY off s
  | .oraInd off => Sys2Proof.Machine.execOraInd off s
  | .trbDp off => Sys2Proof.Machine.execTrbDp off s
  | .oraDpX off => Sys2Proof.Machine.execOraDpX off s
  | .aslDpX off => Sys2Proof.Machine.execAslDpX off s
  | .clc => Sys2Proof.Machine.execClc s
  | .oraAbsY addr => Sys2Proof.Machine.execOraAbsY addr s
  | .incAcc => Sys2Proof.Machine.execIncAcc s
  | .tcs => Sys2Proof.Machine.execTcs s
  | .trbAbs addr => Sys2Proof.Machine.execTrbAbs addr s
  | .oraAbsX addr => Sys2Proof.Machine.execOraAbsX addr s
  | .aslAbsX addr => Sys2Proof.Machine.execAslAbsX addr s
  | .jsr addr => Sys2Proof.Machine.execJsr addr s
  | .jsl addr => Sys2Proof.Machine.execJsl addr s
  | .andSr off => Sys2Proof.Machine.execAndSr off s
  | .bitDp off => Sys2Proof.Machine.execBitDp off s
  | .andDp off => Sys2Proof.Machine.execAndDp off s
  | .rolDp off => Sys2Proof.Machine.execRolDp off s
  | .plp => Sys2Proof.Machine.execPlp s
  | .andImm v => Sys2Proof.Machine.execAndImm v s
  | .rolAcc => Sys2Proof.Machine.execRolAcc s
  | .pld => Sys2Proof.Machine.execPld s
  | .bitAbs addr => Sys2Proof.Machine.execBitAbs addr s
  | .andAbs addr => Sys2Proof.Machine.execAndAbs addr s
  | .rolAbs addr => Sys2Proof.Machine.execRolAbs addr s
  | .andLong addr => Sys2Proof.Machine.execAndLong addr s
  | .bmi disp => Sys2Proof.Machine.execBmi disp s
  | .andIndY off => Sys2Proof.Machine.execAndIndY off s
  | .andInd off => Sys2Proof.Machine.execAndInd off s
  | .bitDpX off => Sys2Proof.Machine.execBitDpX off s
  | .andDpX off => Sys2Proof.Machine.execAndDpX off s
  | .rolDpX off => Sys2Proof.Machine.execRolDpX off s
  | .sec => Sys2Proof.Machine.execSec s
  | .andAbsY addr => Sys2Proof.Machine.execAndAbsY addr s
  | .decAcc => Sys2Proof.Machine.execDecAcc s
  | .tsc => Sys2Proof.Machine.execTsc s
  | .bitAbsX addr => Sys2Proof.Machine.execBitAbsX addr s
  | .andAbsX addr => Sys2Proof.Machine.execAndAbsX addr s
  | .rolAbsX addr => Sys2Proof.Machine.execRolAbsX addr s
  | .rti => Sys2Proof.Machine.execRti s
  | .eorSr off => Sys2Proof.Machine.execEorSr off s
  | .mvp dst src => Sys2Proof.Machine.execMvp dst src s
  | .eorDp off => Sys2Proof.Machine.execEorDp off s
  | .lsrDp off => Sys2Proof.Machine.execLsrDp off s
  | .pha => Sys2Proof.Machine.execPha s
  | .eorImm v => Sys2Proof.Machine.execEorImm v s
  | .lsrAcc => Sys2Proof.Machine.execLsrAcc s
  | .phk => Sys2Proof.Machine.execPhk s
  | .jmpAbs addr => Sys2Proof.Machine.execJmpAbs addr s
  | .eorAbs addr => Sys2Proof.Machine.execEorAbs addr s
  | .lsrAbs addr => Sys2Proof.Machine.execLsrAbs addr s
  | .eorLong addr => Sys2Proof.Machine.execEorLong addr s
  | .bvc disp => Sys2Proof.Machine.execBvc disp s
  | .eorIndY off => Sys2Proof.Machine.execEorIndY off s
  | .eorInd off => Sys2Proof.Machine.execEorInd off s
  | .mvn dst src => Sys2Proof.Machine.execMvn dst src s
  | .eorDpX off => Sys2Proof.Machine.execEorDpX off s
  | .lsrDpX off => Sys2Proof.Machine.execLsrDpX off s
  | .cli => Sys2Proof.Machine.execCli s
  | .eorAbsY addr => Sys2Proof.Machine.execEorAbsY addr s
  | .phy => Sys2Proof.Machine.execPhy s
  | .tcd => Sys2Proof.Machine.execTcd s
  | .jml addr => Sys2Proof.Machine.execJml addr s
  | .eorAbsX addr => Sys2Proof.Machine.execEorAbsX addr s
  | .lsrAbsX addr => Sys2Proof.Machine.execLsrAbsX addr s
  | .rts => Sys2Proof.Machine.execRts s
  | .adcSr off => Sys2Proof.Machine.execAdcSr off s
  | .stzDp off => Sys2Proof.Machine.execStzDp off s
  | .adcDp off => Sys2Proof.Machine.execAdcDp off s
  | .rorDp off => Sys2Proof.Machine.execRorDp off s
  | .pla => Sys2Proof.Machine.execPla s
  | .adcImm v => Sys2Proof.Machine.execAdcImm v s
  | .rorAcc => Sys2Proof.Machine.execRorAcc s
  | .rtl => Sys2Proof.Machine.execRtl s
  | .jmpInd addr => Sys2Proof.Machine.execJmpInd addr s
  | .adcAbs addr => Sys2Proof.Machine.execAdcAbs addr s
  | .rorAbs addr => Sys2Proof.Machine.execRorAbs addr s
  | .adcLong addr => Sys2Proof.Machine.execAdcLong addr s
  | .bvs disp => Sys2Proof.Machine.execBvs disp s
  | .adcIndY off => Sys2Proof.Machine.execAdcIndY off s
  | .adcInd off => Sys2Proof.Machine.execAdcInd off s
  | .stzDpX off => Sys2Proof.Machine.execStzDpX off s
  | .adcDpX off => Sys2Proof.Machine.execAdcDpX off s
  | .rorDpX off => Sys2Proof.Machine.execRorDpX off s
  | .sei => Sys2Proof.Machine.execSei s
  | .adcAbsY addr => Sys2Proof.Machine.execAdcAbsY addr s
  | .ply => Sys2Proof.Machine.execPly s
  | .tdc => Sys2Proof.Machine.execTdc s
  | .adcAbsX addr => Sys2Proof.Machine.execAdcAbsX addr s
  | .rorAbsX addr => Sys2Proof.Machine.execRorAbsX addr s
  | .bra disp => Sys2Proof.Machine.execBra disp s
  | .staSr off => Sys2Proof.Machine.execStaSr off s
  | .styDp off => Sys2Proof.Machine.execStyDp off s
  | .staDp off => Sys2Proof.Machine.execStaDp off s
  | .stxDp off => Sys2Proof.Machine.execStxDp off s
  | .dey => Sys2Proof.Machine.execDey s
  | .bitImm v => Sys2Proof.Machine.execBitImm v s
  | .txa => Sys2Proof.Machine.execTxa s
  | .phb => Sys2Proof.Machine.execPhb s
  | .styAbs addr => Sys2Proof.Machine.execStyAbs addr s
  | .staAbs addr => Sys2Proof.Machine.execStaAbs addr s
  | .stxAbs addr => Sys2Proof.Machine.execStxAbs addr s
  | .staLong addr => Sys2Proof.Machine.execStaLong addr s
  | .bcc disp => Sys2Proof.Machine.execBcc disp s
  | .staIndY off => Sys2Proof.Machine.execStaIndY off s
  | .staInd off => Sys2Proof.Machine.execStaInd off s
  | .styDpX off => Sys2Proof.Machine.execStyDpX off s
  | .staDpX off => Sys2Proof.Machine.execStaDpX off s
  | .stxDpY off => Sys2Proof.Machine.execStxDpY off s
  | .tya => Sys2Proof.Machine.execTya s
  | .staAbsY addr => Sys2Proof.Machine.execStaAbsY addr s
  | .txs => Sys2Proof.Machine.execTxs s
  | .txy => Sys2Proof.Machine.execTxy s
  | .stzAbs addr => Sys2Proof.Machine.execStzAbs addr s
  | .staAbsX addr => Sys2Proof.Machine.execStaAbsX addr s
  | .stzAbsX addr => Sys2Proof.Machine.execStzAbsX addr s
  | .ldyImm v => Sys2Proof.Machine.execLdyImm v s
  | .ldxImm v => Sys2Proof.Machine.execLdxImm v s
  | .ldaSr off => Sys2Proof.Machine.execLdaSr off s
  | .ldyDp off => Sys2Proof.Machine.execLdyDp off s
  | .ldaDp off => Sys2Proof.Machine.execLdaDp off s
  | .ldxDp off => Sys2Proof.Machine.execLdxDp off s
  | .tay => Sys2Proof.Machine.execTay s
  | .ldaImm v => Sys2Proof.Machine.execLdaImm v s
  | .tax => Sys2Proof.Machine.execTax s
  | .plb => Sys2Proof.Machine.execPlb s
  | .ldyAbs addr => Sys2Proof.Machine.execLdyAbs addr s
  | .ldaAbs addr => Sys2Proof.Machine.execLdaAbs addr s
  | .ldxAbs addr => Sys2Proof.Machine.execLdxAbs addr s
  | .ldaLong addr => Sys2Proof.Machine.execLdaLong addr s
  | .bcs disp => Sys2Proof.Machine.execBcs disp s
  | .ldaIndY off => Sys2Proof.Machine.execLdaIndY off s
  | .ldaInd off => Sys2Proof.Machine.execLdaInd off s
  | .ldyDpX off => Sys2Proof.Machine.execLdyDpX off s
  | .ldaDpX off => Sys2Proof.Machine.execLdaDpX off s
  | .ldxDpY off => Sys2Proof.Machine.execLdxDpY off s
  | .clv => Sys2Proof.Machine.execClv s
  | .ldaAbsY addr => Sys2Proof.Machine.execLdaAbsY addr s
  | .tsx => Sys2Proof.Machine.execTsx s
  | .tyx => Sys2Proof.Machine.execTyx s
  | .ldyAbsX addr => Sys2Proof.Machine.execLdyAbsX addr s
  | .ldaAbsX addr => Sys2Proof.Machine.execLdaAbsX addr s
  | .ldxAbsY addr => Sys2Proof.Machine.execLdxAbsY addr s
  | .cpyImm v => Sys2Proof.Machine.execCpyImm v s
  | .rep mask => Sys2Proof.Machine.execRep mask s
  | .cmpSr off => Sys2Proof.Machine.execCmpSr off s
  | .cpyDp off => Sys2Proof.Machine.execCpyDp off s
  | .cmpDp off => Sys2Proof.Machine.execCmpDp off s
  | .decDp off => Sys2Proof.Machine.execDecDp off s
  | .iny => Sys2Proof.Machine.execIny s
  | .cmpImm v => Sys2Proof.Machine.execCmpImm v s
  | .dex => Sys2Proof.Machine.execDex s
  | .cpyAbs addr => Sys2Proof.Machine.execCpyAbs addr s
  | .cmpAbs addr => Sys2Proof.Machine.execCmpAbs addr s
  | .decAbs addr => Sys2Proof.Machine.execDecAbs addr s
  | .cmpLong addr => Sys2Proof.Machine.execCmpLong addr s
  | .bne disp => Sys2Proof.Machine.execBne disp s
  | .cmpIndY off => Sys2Proof.Machine.execCmpIndY off s
  | .cmpInd off => Sys2Proof.Machine.execCmpInd off s
  | .cmpDpX off => Sys2Proof.Machine.execCmpDpX off s
  | .decDpX off => Sys2Proof.Machine.execDecDpX off s
  | .cld => Sys2Proof.Machine.execCld s
  | .cmpAbsY addr => Sys2Proof.Machine.execCmpAbsY addr s
  | .phx => Sys2Proof.Machine.execPhx s
  | .cmpAbsX addr => Sys2Proof.Machine.execCmpAbsX addr s
  | .decAbsX addr => Sys2Proof.Machine.execDecAbsX addr s
  | .cpxImm v => Sys2Proof.Machine.execCpxImm v s
  | .sep mask => Sys2Proof.Machine.execSep mask s
  | .sbcSr off => Sys2Proof.Machine.execSbcSr off s
  | .cpxDp off => Sys2Proof.Machine.execCpxDp off s
  | .sbcDp off => Sys2Proof.Machine.execSbcDp off s
  | .incDp off => Sys2Proof.Machine.execIncDp off s
  | .inx => Sys2Proof.Machine.execInx s
  | .sbcImm v => Sys2Proof.Machine.execSbcImm v s
  | .nop => Sys2Proof.Machine.execNop s
  | .xba => Sys2Proof.Machine.execXba s
  | .cpxAbs addr => Sys2Proof.Machine.execCpxAbs addr s
  | .sbcAbs addr => Sys2Proof.Machine.execSbcAbs addr s
  | .incAbs addr => Sys2Proof.Machine.execIncAbs addr s
  | .sbcLong addr => Sys2Proof.Machine.execSbcLong addr s
  | .beq disp => Sys2Proof.Machine.execBeq disp s
  | .sbcIndY off => Sys2Proof.Machine.execSbcIndY off s
  | .sbcInd off => Sys2Proof.Machine.execSbcInd off s
  | .sbcDpX off => Sys2Proof.Machine.execSbcDpX off s
  | .incDpX off => Sys2Proof.Machine.execIncDpX off s
  | .sed => Sys2Proof.Machine.execSed s
  | .sbcAbsY addr => Sys2Proof.Machine.execSbcAbsY addr s
  | .plx => Sys2Proof.Machine.execPlx s
  | .xce => Sys2Proof.Machine.execXce s
  | .sbcAbsX addr => Sys2Proof.Machine.execSbcAbsX addr s
  | .incAbsX addr => Sys2Proof.Machine.execIncAbsX addr s

end Sys2Proof.Machine
end

