-- ==== Sys2Proof/Machine/Fetch.lean ====
section
/-! DEFINITION. Fetching an instruction's bytes and running it (60_exceptions.md R300 steps 3 to 7,
10_state.md R27, 30_encoding.md R90, R91), and placing an instruction where the next step fetches it. -/

namespace Sys2Proof.Machine

open Sys2Proof

/-- `n` fetches and the bytes they return. -/
def fetchMany : Nat → Core (List Byte)
  | 0 => pure []
  | n + 1 => do
    let b ← fetch
    let rest ← fetchMany n
    pure (b :: rest)

/-- The `n` operand bytes of the opcode `op`. All are fetched in a row, except that JSL pushes PBR and
idles before it fetches its bank byte (45_control_stack_system.md R240), so its own push, or the Bus in
those calls, can decide that byte. -/
def fetchOperandBytes (op : Byte) (n : Nat) : Core (List Byte) :=
  if op = 0x22 then do
    let addr ← fetchMany 2
    let b ← query fun s => s.regs.pbr
    pushN b
    busIdle
    let bank ← fetchMany 1
    pure (addr ++ bank)
  else fetchMany n

/-- How many operand bytes the opcode `op` has under the flags in force (30_encoding.md R91, R100). -/
def State.operandBytes (s : State) (op : Byte) : Nat :=
  ((opcodeFormat op).map (Format.operandBytes s.flags.m s.flags.xf)).getD 0

/-- The fetches of one instruction, opcode first. -/
def fetchInstruction : Core (List Byte) := do
  let op ← fetch
  let n ← query fun s => s.operandBytes op
  let bytes ← fetchOperandBytes op n
  pure (op :: bytes)

/-- The bytes the fetches of the next instruction will return (log 5). The fetches themselves are made by
the instruction's meaning. -/
def State.instrBytes (s : State) : List Byte := (fetchInstruction s).1

/-- Steps 3 to 7 of 60_exceptions.md R300: decode what is fetched at `PBR:PC` and run it, or record and
return the fault of an unimplemented opcode (R290). -/
def runNext (s : State) : Host.Outcome State Fault Refusal :=
  match decode s.flags.m s.flags.xf s.instrBytes with
  | .instr i _ => exec i s
  | _ => failWith raiseUnimplemented s

/-- The start of a step: the cycle log of the step before is dropped (log 6). -/
def State.beginStep (s : State) : State := { s with log := [] }

/-- Put bytes at consecutive addresses of the program bank, from `pc` on (10_state.md R27). -/
def Memory.placeBytes (pbr : Byte) (pc : Word) : List Byte → Memory → Memory
  | [], mem => mem
  | b :: rest, mem => Memory.placeBytes pbr (pc + 1) rest (mem.write (bankAddr pbr pc) b)

/-- The environment lets the Bus answer from its store. -/
def BusEvent.fromStore (e : BusEvent) : BusEvent := { e with answer := none }

/-- The most bus calls that can stand before and at the fetch of an instruction's last byte (JSL, R240). -/
def fetchSpan : Nat := 6

/-- A state whose next step dispatches the instruction with these bytes: the bytes stand at `PBR:PC`, the
Bus answers the fetches from its store, nothing is latched and no fault is recorded, as in a core the test
harness builds (60_exceptions.md R300, 92_eei_decisions.md D30; log 7). -/
def State.withBytes (s : State) (bytes : List Byte) : State :=
  { s with
    ilatch := none
    fault := none
    mem := Memory.placeBytes s.regs.pbr s.regs.pc bytes s.mem
    env := (s.env.take fetchSpan).map BusEvent.fromStore ++ s.env.drop fetchSpan }

end Sys2Proof.Machine
end

