-- ==== Sys2Proof/Machine/Step.lean ====
section
/-! DEFINITION. `step()` (60_exceptions.md R300) and the placing of one instruction for it. -/

namespace Sys2Proof.Machine

open Sys2Proof

/-- One `step()` (60_exceptions.md R300): a recorded fault is returned with no bus call and no change
(R291); a latched interrupt is serviced (R301, R302; 70_reset_and_hazards.md R331); otherwise the instruction
at `PBR:PC` runs, or its unimplemented opcode is the error returned (R290). -/
def step (s : State) : Host.Outcome State Fault Refusal :=
  match s.fault with
  | some r => .fault (.unimplementedOpcode r s.beginStep)
  | none =>
    match s.ilatch with
    | some k => complete (serviceInterrupt k) s.beginStep
    | none => runNext s.beginStep

/-- The state whose next step fetches and runs the instruction numbered `w` (log 7). -/
def State.withFetchWord (s : State) (nbits w : Nat) : State := s.withBytes (tableBytes nbits w)

end Sys2Proof.Machine
end

