-- ==== Sys2Proof/Machine/Trace.lean ====
section
/-! DEFINITION. What the bus calls of an instruction are, as data computed from the state the instruction
starts in: the addresses of the fetches, the resolver's calls and its effective address
(40_addressing_modes.md R110 to R119), the operand access (R123). The resolver of Operands.lean RUNS these
calls; this file LISTS them. Statements are written with these names. -/

namespace Sys2Proof.Machine

open Sys2Proof

/-- The script that is left after the next `k` bus calls. -/
def State.envAt (s : State) (k : Nat) : List BusEvent := s.env.drop k

/-- The line bits once the environment has acted in the next `k` bus calls (60_exceptions.md R294). -/
def State.lineAt (s : State) : Nat → InterruptLine
  | 0 => s.line
  | k + 1 => lineOf s.env[k]? (s.lineAt k)

/-- The byte the Bus answers if bus call number `k` from now (the next one is number 0) is a read at `a`
and the store then holds `mem`. -/
def State.byteIn (s : State) (mem : Memory) (k : Nat) (a : Addr) : Byte := answerOf s.env[k]? mem a

/-- The byte the Bus answers if bus call number `k` from now is a read at `a` and nothing is written before
it. -/
def State.byteAt (s : State) (k : Nat) (a : Addr) : Byte := s.byteIn s.mem k a

/-- That read, as the log records it. -/
def State.readCall (s : State) (k : Nat) (a : Addr) : BusCall := .read a (s.byteAt k a)

/-- The address of byte `k` of the instruction (10_state.md R27, 30_encoding.md R90). -/
def State.codeAddr (s : State) (k : Nat) : Addr := bankAddr s.regs.pbr (s.regs.pc + BitVec.ofNat 16 k)

/-- The fetches of the first `n` bytes of an instruction, as its first `n` bus calls. -/
def State.fetchCalls (s : State) (n : Nat) : List BusCall :=
  (List.range n).map fun k => s.readCall k (s.codeAddr k)

/-- The state after the bus calls `calls` and `len` instruction bytes, before any `POLL`. No register but
PC, no flag and no byte of memory is changed. -/
def State.afterCalls (s : State) (len : Nat) (calls : List BusCall) : State :=
  { s with
    regs.pc := s.regs.pc + BitVec.ofNat 16 len
    line := s.lineAt calls.length
    env := s.envAt calls.length
    log := s.log ++ calls }

/-- The same with `POLL` before the last call (60_exceptions.md R299): `i` is flag I at the poll. -/
def State.ranThrough (s : State) (len : Nat) (calls : List BusCall) (i : Bool) : State :=
  { s.afterCalls len calls with ilatch := pollResult (s.lineAt (calls.length - 1)) i }

/-- How many operand bytes a mode has (30_encoding.md R91). -/
def Mode.operandBytes : Mode → Nat
  | .dp _ | .dpx _ | .dpy _ | .ind _ | .iny _ | .sr _ => 1
  | .abs _ | .abx _ | .aby _ => 2
  | .abl _ => 3

/-- How many idle calls follow a direct offset: one when `D[7:0]` is not 0 (40_addressing_modes.md R112). -/
def State.directIdles (s : State) : Nat := if lowByte s.regs.d = 0 then 0 else 1

/-- Opcode, offset and the idle calls of a direct-page mode (R112). -/
def State.directCalls (s : State) : List BusCall :=
  s.fetchCalls 2 ++ List.replicate s.directIdles .idle

/-- The pointer of `(d)` and `(d),Y`, as the Bus will answer it (R117, R118). -/
def State.pointerAt (s : State) (off : Byte) : Word :=
  joinBytes (s.byteAt (3 + s.directIdles) (s.directAddr (zeroExt off) 1))
    (s.byteAt (2 + s.directIdles) (s.directAddr (zeroExt off) 0))

/-- The two pointer reads of `(d)` and `(d),Y` (R117, R118). -/
def State.pointerCalls (s : State) (off : Byte) : List BusCall :=
  [s.readCall (2 + s.directIdles) (s.directAddr (zeroExt off) 0),
   s.readCall (3 + s.directIdles) (s.directAddr (zeroExt off) 1)]

/-- The dummy read of an indexed mode, as bus call number `k`: made if and only if the access writes or the
index crosses a page (R115, R118). -/
def State.carryCalls (s : State) (k : Nat) (base i : Word) (writeIntent : Bool) : List BusCall :=
  if writeIntent || pageCross base i then [s.readCall k (s.uncarriedAddr base i)] else []

/-- Every bus call of an instruction before its operand access: the opcode fetch and the resolver's calls
(40_addressing_modes.md R112 to R119). -/
def State.resolverCalls (s : State) (mode : Mode) (writeIntent : Bool) : List BusCall :=
  match mode with
  | .dp _ => s.directCalls
  | .dpx off | .dpy off =>
    s.directCalls ++ [s.readCall (2 + s.directIdles) (s.directAddr (zeroExt off) 0)]
  | .abs _ => s.fetchCalls 3
  | .abx addr => s.fetchCalls 3 ++ s.carryCalls 3 addr s.regs.x writeIntent
  | .aby addr => s.fetchCalls 3 ++ s.carryCalls 3 addr s.regs.y writeIntent
  | .abl _ => s.fetchCalls 4
  | .ind off => s.directCalls ++ s.pointerCalls off
  | .iny off =>
    s.directCalls ++ s.pointerCalls off ++
      s.carryCalls (4 + s.directIdles) (s.pointerAt off) s.regs.y writeIntent
  | .sr _ => s.fetchCalls 2 ++ [.idle]

/-- The effective address of a mode (40_addressing_modes.md R112 to R119, 20_memory.md R68). -/
def State.effAddr (s : State) : Mode → EffAddr
  | .dp off => s.directEff (zeroExt off)
  | .dpx off => s.directEff (zeroExt off + s.regs.x)
  | .dpy off => s.directEff (zeroExt off + s.regs.y)
  | .abs addr => longEff (bankAddr s.regs.dbr addr)
  | .abx addr => longEff (s.indexedAddr addr s.regs.x)
  | .aby addr => longEff (s.indexedAddr addr s.regs.y)
  | .abl addr => longEff addr
  | .ind off => longEff (bankAddr s.regs.dbr (s.pointerAt off))
  | .iny off => longEff (s.indexedAddr (s.pointerAt off) s.regs.y)
  | .sr off => s.stackRelEff off

/-- The reads of an operand of width `w` at `ea`, from bus call number `k` on (R123). -/
def State.operandReads (s : State) (k : Nat) (ea : EffAddr) (w : Width) : List BusCall :=
  match w with
  | .w8 => [s.readCall k ea.lo]
  | .w16 => [s.readCall k ea.lo, s.readCall (k + 1) ea.hi]

/-- The value those reads give (R123). -/
def State.operandAt (s : State) (k : Nat) (ea : EffAddr) (w : Width) : Word :=
  match w with
  | .w8 => zeroExt (s.byteAt k ea.lo)
  | .w16 => joinBytes (s.byteAt (k + 1) ea.hi) (s.byteAt k ea.lo)

/-- All bus calls of a read instruction (41_binary_read.md R140). -/
def State.readCalls (s : State) (mode : Mode) (w : Width) : List BusCall :=
  s.resolverCalls mode false ++
    s.operandReads (s.resolverCalls mode false).length (s.effAddr mode) w

/-- The operand of a read instruction (41_binary_read.md R140). -/
def State.readValue (s : State) (mode : Mode) (w : Width) : Word :=
  s.operandAt (s.resolverCalls mode false).length (s.effAddr mode) w

/-- The state in which a read instruction applies its operator: all bus calls made, nothing else changed
(41_binary_read.md R140: "All bus calls precede all register and flag writes"). -/
def State.afterRead (s : State) (mode : Mode) (w : Width) : State :=
  s.ranThrough (1 + mode.operandBytes) (s.readCalls mode w) s.flags.i

/-- How many operand bytes an immediate has at width `w` (30_encoding.md R91). -/
def Width.immBytes : Width → Nat
  | .w8 => 1
  | .w16 => 2

/-- The state in which an immediate instruction applies its operator (40_addressing_modes.md R111). -/
def State.afterImmediate (s : State) (w : Width) : State :=
  s.ranThrough (1 + w.immBytes) (s.fetchCalls (1 + w.immBytes)) s.flags.i

/-- The state in which an implied instruction takes effect: opcode fetch and one idle
(40_addressing_modes.md R120). -/
def State.afterImplied (s : State) : State := s.ranThrough 1 (s.fetchCalls 1 ++ [.idle]) s.flags.i

/-- The operand of a modify instruction, read with write intent (40_addressing_modes.md R125). -/
def State.modifyValue (s : State) (mode : Mode) (w : Width) : Word :=
  s.operandAt (s.resolverCalls mode true).length (s.effAddr mode) w

/-- The bytes a store of `v` at width `w` leaves: `v[7:0]` at `ea0` and, for 16 bits, then `v[15:8]` at
`ea1` (40_addressing_modes.md R124). -/
def Memory.store (mem : Memory) (ea : EffAddr) (w : Width) (v : Word) : Memory :=
  match w with
  | .w8 => mem.write ea.lo (lowByte v)
  | .w16 => (mem.write ea.lo (lowByte v)).write ea.hi (highByte v)

/-- The write calls of a store of `v` (40_addressing_modes.md R124). -/
def storeCalls (ea : EffAddr) (w : Width) (v : Word) : List BusCall :=
  match w with
  | .w8 => [.write ea.lo (lowByte v)]
  | .w16 => [.write ea.lo (lowByte v), .write ea.hi (highByte v)]

/-- The bytes the write-back of a modify instruction leaves: while E = 1 the dummy write of the unmodified
low byte first, then `r[15:8]` at `ea1` for 16 bits, then `r[7:0]` at `ea0`
(40_addressing_modes.md R125). -/
def Memory.modify (mem : Memory) (e : Bool) (ea : EffAddr) (w : Width) (v r : Word) : Memory :=
  let mem := if e then mem.write ea.lo (lowByte v) else mem
  match w with
  | .w8 => mem.write ea.lo (lowByte r)
  | .w16 => (mem.write ea.hi (highByte r)).write ea.lo (lowByte r)

/-- The dummy cycle and the writes of a modify instruction (40_addressing_modes.md R125). -/
def modifyCalls (e : Bool) (ea : EffAddr) (w : Width) (v r : Word) : List BusCall :=
  (if e then .write ea.lo (lowByte v) else .idle) ::
    match w with
    | .w8 => [.write ea.lo (lowByte r)]
    | .w16 => [.write ea.hi (highByte r), .write ea.lo (lowByte r)]

/-! ### The stack (20_memory.md R70 to R74) -/

/-- S after one push: within page 1 if `wrap`, else modulo 2^16 (20_memory.md R70, R72). -/
def stackDown (wrap : Bool) (sp : Word) : Word := if wrap then joinBytes 0x01 (lowByte (sp - 1)) else sp - 1

/-- S after one pull (20_memory.md R71, R73). -/
def stackUp (wrap : Bool) (sp : Word) : Word := if wrap then joinBytes 0x01 (lowByte (sp + 1)) else sp + 1

/-- S after `n` pushes. -/
def stackDowns (wrap : Bool) (sp : Word) : Nat → Word
  | 0 => sp
  | n + 1 => stackDown wrap (stackDowns wrap sp n)

/-- S after `n` pulls. -/
def stackUps (wrap : Bool) (sp : Word) : Nat → Word
  | 0 => sp
  | n + 1 => stackUp wrap (stackUps wrap sp n)

/-- S after `fixS` (20_memory.md R74). -/
def pageFixed (e : Bool) (sp : Word) : Word := if e then joinBytes 0x01 (lowByte sp) else sp

/-- The address that push number `k` (from 0) writes to. -/
def pushAddr (wrap : Bool) (sp : Word) (k : Nat) : Addr := bankAddr 0x00 (stackDowns wrap sp k)

/-- The address that pull number `k` (from 0) reads. -/
def pullAddr (wrap : Bool) (sp : Word) (k : Nat) : Addr := bankAddr 0x00 (stackUps wrap sp (k + 1))

/-- The store after pushing the listed bytes, the first one first, from push number `k` on. -/
def Memory.pushed (mem : Memory) (wrap : Bool) (sp : Word) (k : Nat) : List Byte → Memory
  | [] => mem
  | b :: rest => Memory.pushed (mem.write (pushAddr wrap sp k) b) wrap sp (k + 1) rest

/-- The write calls of those pushes. -/
def pushCalls (wrap : Bool) (sp : Word) (k : Nat) : List Byte → List BusCall
  | [] => []
  | b :: rest => .write (pushAddr wrap sp k) b :: pushCalls wrap sp (k + 1) rest

/-- The byte that pull number `k` returns, when the first pull is bus call number `n`. -/
def State.pulledByte (s : State) (wrap : Bool) (n k : Nat) : Byte :=
  s.byteAt (n + k) (pullAddr wrap s.regs.s k)

/-- The read calls of `count` pulls, the first one bus call number `n`. -/
def State.pullCalls (s : State) (wrap : Bool) (n count : Nat) : List BusCall :=
  (List.range count).map fun k => s.readCall (n + k) (pullAddr wrap s.regs.s k)

/-- The frame an interrupt or BRK pushes, in order: PBR in native mode only, `PC[15:8]`, `PC[7:0]`, the
flag byte (60_exceptions.md R301). -/
def exceptionFrame (f : Flags) (pbr : Byte) (pc : Word) (breakFlag : Bool) : List Byte :=
  (if f.e then [] else [pbr]) ++ [highByte pc, lowByte pc, flagsToByte breakFlag f]

end Sys2Proof.Machine
end

