-- ==== Sys2Proof/Machine/Timing.lean ====
section
/-! DEFINITION. The number of bus calls of a step (70_reset_and_hazards.md R338): the spec's table, row by
row. The only timing the core has is the number and order of its bus calls. -/

namespace Sys2Proof.Machine

open Sys2Proof

/-- `m` of R338: 1 if the accumulator is 16 bits. -/
def State.costM (s : State) : Nat := if s.flags.m then 0 else 1

/-- `x` of R338: 1 if the index registers are 16 bits. -/
def State.costX (s : State) : Nat := if s.flags.xf then 0 else 1

/-- `d` of R338: 1 if `D[7:0]` is not 0. -/
def State.costD (s : State) : Nat := if lowByte s.regs.d = 0 then 0 else 1

/-- `e` of R338: 1 if E = 1. -/
def State.costE (s : State) : Nat := if s.flags.e then 1 else 0

/-- `p` of R338: 1 if the indexed sum crosses a page. -/
def costP (base i : Word) : Nat := if pageCross base i then 1 else 0

/-- `2 + t + (t and e and page crossed)` of R338, for a branch whose next instruction is at `PC + 2`. -/
def State.branchCalls (s : State) (take : Bool) (disp : Byte) : Nat :=
  let next := s.regs.pc + 2
  2 + (if take then 1 else 0) +
    (if take && s.flags.e && highByte (next + signExt disp) != highByte next then 1 else 0)

/-- The table of 70_reset_and_hazards.md R338, opcode fetch included. -/
def busCalls (s : State) : Instr → Nat
  | .brk _ => 8 - s.costE
  | .oraSr _ => 4 + s.costM
  | .tsbDp _ => 5 + s.costD + 2 * s.costM
  | .oraDp _ => 3 + s.costD + s.costM
  | .aslDp _ => 5 + s.costD + 2 * s.costM
  | .php => 3
  | .oraImm _ => 2 + s.costM
  | .aslAcc => 2
  | .phd => 4
  | .tsbAbs _ => 6 + 2 * s.costM
  | .oraAbs _ => 4 + s.costM
  | .aslAbs _ => 6 + 2 * s.costM
  | .oraLong _ => 5 + s.costM
  | .bpl disp => s.branchCalls (!s.flags.n) disp
  | .oraIndY off => 5 + s.costD + costP (s.pointerAt off) s.regs.y + s.costM
  | .oraInd _ => 5 + s.costD + s.costM
  | .trbDp _ => 5 + s.costD + 2 * s.costM
  | .oraDpX _ => 4 + s.costD + s.costM
  | .aslDpX _ => 6 + s.costD + 2 * s.costM
  | .clc => 2
  | .oraAbsY addr => 4 + costP addr s.regs.y + s.costM
  | .incAcc => 2
  | .tcs => 2
  | .trbAbs _ => 6 + 2 * s.costM
  | .oraAbsX addr => 4 + costP addr s.regs.x + s.costM
  | .aslAbsX _ => 7 + 2 * s.costM
  | .jsr _ => 6
  | .jsl _ => 8
  | .andSr _ => 4 + s.costM
  | .bitDp _ => 3 + s.costD + s.costM
  | .andDp _ => 3 + s.costD + s.costM
  | .rolDp _ => 5 + s.costD + 2 * s.costM
  | .plp => 4
  | .andImm _ => 2 + s.costM
  | .rolAcc => 2
  | .pld => 5
  | .bitAbs _ => 4 + s.costM
  | .andAbs _ => 4 + s.costM
  | .rolAbs _ => 6 + 2 * s.costM
  | .andLong _ => 5 + s.costM
  | .bmi disp => s.branchCalls s.flags.n disp
  | .andIndY off => 5 + s.costD + costP (s.pointerAt off) s.regs.y + s.costM
  | .andInd _ => 5 + s.costD + s.costM
  | .bitDpX _ => 4 + s.costD + s.costM
  | .andDpX _ => 4 + s.costD + s.costM
  | .rolDpX _ => 6 + s.costD + 2 * s.costM
  | .sec => 2
  | .andAbsY addr => 4 + costP addr s.regs.y + s.costM
  | .decAcc => 2
  | .tsc => 2
  | .bitAbsX addr => 4 + costP addr s.regs.x + s.costM
  | .andAbsX addr => 4 + costP addr s.regs.x + s.costM
  | .rolAbsX _ => 7 + 2 * s.costM
  | .rti => 7 - s.costE
  | .eorSr _ => 4 + s.costM
  | .mvp _ _ => 7
  | .eorDp _ => 3 + s.costD + s.costM
  | .lsrDp _ => 5 + s.costD + 2 * s.costM
  | .pha => 3 + s.costM
  | .eorImm _ => 2 + s.costM
  | .lsrAcc => 2
  | .phk => 3
  | .jmpAbs _ => 3
  | .eorAbs _ => 4 + s.costM
  | .lsrAbs _ => 6 + 2 * s.costM
  | .eorLong _ => 5 + s.costM
  | .bvc disp => s.branchCalls (!s.flags.v) disp
  | .eorIndY off => 5 + s.costD + costP (s.pointerAt off) s.regs.y + s.costM
  | .eorInd _ => 5 + s.costD + s.costM
  | .mvn _ _ => 7
  | .eorDpX _ => 4 + s.costD + s.costM
  | .lsrDpX _ => 6 + s.costD + 2 * s.costM
  | .cli => 2
  | .eorAbsY addr => 4 + costP addr s.regs.y + s.costM
  | .phy => 3 + s.costX
  | .tcd => 2
  | .jml _ => 4
  | .eorAbsX addr => 4 + costP addr s.regs.x + s.costM
  | .lsrAbsX _ => 7 + 2 * s.costM
  | .rts => 6
  | .adcSr _ => 4 + s.costM
  | .stzDp _ => 3 + s.costD + s.costM
  | .adcDp _ => 3 + s.costD + s.costM
  | .rorDp _ => 5 + s.costD + 2 * s.costM
  | .pla => 4 + s.costM
  | .adcImm _ => 2 + s.costM
  | .rorAcc => 2
  | .rtl => 6
  | .jmpInd _ => 5
  | .adcAbs _ => 4 + s.costM
  | .rorAbs _ => 6 + 2 * s.costM
  | .adcLong _ => 5 + s.costM
  | .bvs disp => s.branchCalls s.flags.v disp
  | .adcIndY off => 5 + s.costD + costP (s.pointerAt off) s.regs.y + s.costM
  | .adcInd _ => 5 + s.costD + s.costM
  | .stzDpX _ => 4 + s.costD + s.costM
  | .adcDpX _ => 4 + s.costD + s.costM
  | .rorDpX _ => 6 + s.costD + 2 * s.costM
  | .sei => 2
  | .adcAbsY addr => 4 + costP addr s.regs.y + s.costM
  | .ply => 4 + s.costX
  | .tdc => 2
  | .adcAbsX addr => 4 + costP addr s.regs.x + s.costM
  | .rorAbsX _ => 7 + 2 * s.costM
  | .bra disp => s.branchCalls true disp
  | .staSr _ => 4 + s.costM
  | .styDp _ => 3 + s.costD + s.costX
  | .staDp _ => 3 + s.costD + s.costM
  | .stxDp _ => 3 + s.costD + s.costX
  | .dey => 2
  | .bitImm _ => 2 + s.costM
  | .txa => 2
  | .phb => 3
  | .styAbs _ => 4 + s.costX
  | .staAbs _ => 4 + s.costM
  | .stxAbs _ => 4 + s.costX
  | .staLong _ => 5 + s.costM
  | .bcc disp => s.branchCalls (!s.flags.c) disp
  | .staIndY _ => 6 + s.costD + s.costM
  | .staInd _ => 5 + s.costD + s.costM
  | .styDpX _ => 4 + s.costD + s.costX
  | .staDpX _ => 4 + s.costD + s.costM
  | .stxDpY _ => 4 + s.costD + s.costX
  | .tya => 2
  | .staAbsY _ => 5 + s.costM
  | .txs => 2
  | .txy => 2
  | .stzAbs _ => 4 + s.costM
  | .staAbsX _ => 5 + s.costM
  | .stzAbsX _ => 5 + s.costM
  | .ldyImm _ => 2 + s.costX
  | .ldxImm _ => 2 + s.costX
  | .ldaSr _ => 4 + s.costM
  | .ldyDp _ => 3 + s.costD + s.costX
  | .ldaDp _ => 3 + s.costD + s.costM
  | .ldxDp _ => 3 + s.costD + s.costX
  | .tay => 2
  | .ldaImm _ => 2 + s.costM
  | .tax => 2
  | .plb => 4
  | .ldyAbs _ => 4 + s.costX
  | .ldaAbs _ => 4 + s.costM
  | .ldxAbs _ => 4 + s.costX
  | .ldaLong _ => 5 + s.costM
  | .bcs disp => s.branchCalls s.flags.c disp
  | .ldaIndY off => 5 + s.costD + costP (s.pointerAt off) s.regs.y + s.costM
  | .ldaInd _ => 5 + s.costD + s.costM
  | .ldyDpX _ => 4 + s.costD + s.costX
  | .ldaDpX _ => 4 + s.costD + s.costM
  | .ldxDpY _ => 4 + s.costD + s.costX
  | .clv => 2
  | .ldaAbsY addr => 4 + costP addr s.regs.y + s.costM
  | .tsx => 2
  | .tyx => 2
  | .ldyAbsX addr => 4 + costP addr s.regs.x + s.costX
  | .ldaAbsX addr => 4 + costP addr s.regs.x + s.costM
  | .ldxAbsY addr => 4 + costP addr s.regs.y + s.costX
  | .cpyImm _ => 2 + s.costX
  | .rep _ => 3
  | .cmpSr _ => 4 + s.costM
  | .cpyDp _ => 3 + s.costD + s.costX
  | .cmpDp _ => 3 + s.costD + s.costM
  | .decDp _ => 5 + s.costD + 2 * s.costM
  | .iny => 2
  | .cmpImm _ => 2 + s.costM
  | .dex => 2
  | .cpyAbs _ => 4 + s.costX
  | .cmpAbs _ => 4 + s.costM
  | .decAbs _ => 6 + 2 * s.costM
  | .cmpLong _ => 5 + s.costM
  | .bne disp => s.branchCalls (!s.flags.z) disp
  | .cmpIndY off => 5 + s.costD + costP (s.pointerAt off) s.regs.y + s.costM
  | .cmpInd _ => 5 + s.costD + s.costM
  | .cmpDpX _ => 4 + s.costD + s.costM
  | .decDpX _ => 6 + s.costD + 2 * s.costM
  | .cld => 2
  | .cmpAbsY addr => 4 + costP addr s.regs.y + s.costM
  | .phx => 3 + s.costX
  | .cmpAbsX addr => 4 + costP addr s.regs.x + s.costM
  | .decAbsX _ => 7 + 2 * s.costM
  | .cpxImm _ => 2 + s.costX
  | .sep _ => 3
  | .sbcSr _ => 4 + s.costM
  | .cpxDp _ => 3 + s.costD + s.costX
  | .sbcDp _ => 3 + s.costD + s.costM
  | .incDp _ => 5 + s.costD + 2 * s.costM
  | .inx => 2
  | .sbcImm _ => 2 + s.costM
  | .nop => 2
  | .xba => 3
  | .cpxAbs _ => 4 + s.costX
  | .sbcAbs _ => 4 + s.costM
  | .incAbs _ => 6 + 2 * s.costM
  | .sbcLong _ => 5 + s.costM
  | .beq disp => s.branchCalls s.flags.z disp
  | .sbcIndY off => 5 + s.costD + costP (s.pointerAt off) s.regs.y + s.costM
  | .sbcInd _ => 5 + s.costD + s.costM
  | .sbcDpX _ => 4 + s.costD + s.costM
  | .incDpX _ => 6 + s.costD + 2 * s.costM
  | .sed => 2
  | .sbcAbsY addr => 4 + costP addr s.regs.y + s.costM
  | .plx => 4 + s.costX
  | .xce => 2
  | .sbcAbsX addr => 4 + costP addr s.regs.x + s.costM
  | .incAbsX _ => 7 + 2 * s.costM

end Sys2Proof.Machine
end

