-- ==== Sys2Proof/Safety.lean ====
section
/-! DEFINITION. What a good state and a safe run are, and the terms the statements use: the result of an
instruction, written from the spec's arithmetic and not from the model's operators, over the list of bus
calls of Machine/Trace.lean. Each `...By` says that an instruction ANSWERS A NEXT STATE in every state, and
which one; every field that the next state does not name is that of the state before. -/

namespace Sys2Proof.Machine

open Sys2Proof

/-! ### Good states, safe outcomes -/

/-- The invariant of the machine between steps: the store is in canonical form; while E = 1, M = XF = 1
(10_state.md R30) and S is in page 1 (R24); while XF = 1, the index high bytes are 0 (R36). -/
structure State.Inv (s : State) : Prop where
  mem_wf : s.mem.wf = true
  emulation_widths : s.flags.e = true → s.flags.m = true ∧ s.flags.xf = true
  emulation_stack : s.flags.e = true → highByte s.regs.s = 0x01
  index_high : s.flags.xf = true → highByte s.regs.x = 0x00 ∧ highByte s.regs.y = 0x00

/-- The Bus answers from its store and nobody moves the lines: the fixture memory of 20_memory.md R61. -/
def State.Quiet (s : State) : Prop := s.env = []

/-- An outcome is safe if it is a next state with no fault recorded, or an error that the state the step
leaves records. -/
def SafeOutcome (o : Host.Outcome State Fault Refusal) : Prop :=
  match o with
  | .next t => t.fault = none
  | .fault (.unimplementedOpcode error after) => after.fault = some error
  | .refused _ => False

/-- `t` is the state that the step from `s` leaves, whether `step()` returns ok or its error. -/
def StepLeaves (s t : State) : Prop :=
  step s = .next t ∨ ∃ error, step s = .fault (.unimplementedOpcode error t)

/-- The four bytes that stand at `PBR:PC` in the store, and after it in the bank. -/
def State.storedBytes (s : State) : List Byte := (List.range 4).map fun k => s.mem.read (s.codeAddr k)

/-! ### Values at a width -/

/-- What a `w`-bit write of `r` to the accumulator leaves in all 16 bits of A (10_state.md R22). -/
def accWrite (w : Width) (old r : Word) : Word :=
  match w with
  | .w8 => joinBytes (highByte old) (lowByte r)
  | .w16 => r

/-- An index register or its high byte cleared (10_state.md R36). -/
def indexFit (narrow : Bool) (v : Word) : Word := if narrow then joinBytes 0x00 (lowByte v) else v

/-- `n mod 2^w`, as a word. -/
def Width.wrap (w : Width) (n : Nat) : Word := BitVec.ofNat 16 (n % 2 ^ w.bits)

/-- N and Z of a `w`-bit result (00_scope.md R10). -/
def Flags.withNZ (f : Flags) (w : Width) (r : Word) : Flags :=
  { f with n := r.getLsbD (w.bits - 1), z := decide (r = 0) }

/-- A state with N and Z of a `w`-bit result. -/
def State.withNZ (t : State) (w : Width) (r : Word) : State := { t with flags := t.flags.withNZ w r }

/-- A state with a `w`-bit result in A, N and Z. -/
def State.accResult (t : State) (w : Width) (r : Word) : State :=
  { t with regs.a := accWrite w t.regs.a r, flags := t.flags.withNZ w r }

/-- A state with a `w`-bit result in X, N and Z (10_state.md R23). -/
def State.xResult (t : State) (w : Width) (r : Word) : State :=
  { t with regs.x := r, flags := t.flags.withNZ w r }

/-- A state with a `w`-bit result in Y, N and Z (10_state.md R23). -/
def State.yResult (t : State) (w : Width) (r : Word) : State :=
  { t with regs.y := r, flags := t.flags.withNZ w r }

/-- A comparison's flags for `w`-bit `l` and `m` (41_binary_read.md R146). -/
def State.compareResult (t : State) (w : Width) (l m : Word) : State :=
  { t with flags := { t.flags.withNZ w (w.wrap (l.toNat + 2 ^ w.bits - m.toNat)) with
      c := decide (m.toNat ≤ l.toNat) } }

/-- Decimal digit `k` of a word, the least significant one number 0. -/
def bcdDigit (v : Word) (k : Nat) : Nat := v.toNat / 16 ^ k % 16

/-- Every digit of the word is decimal. -/
def ValidBcd (v : Word) : Prop := ∀ k, k < 4 → bcdDigit v k < 10

/-- The number a word of four decimal digits stands for. -/
def bcdValue (v : Word) : Nat := bcdDigit v 0 + 10 * bcdDigit v 1 + 100 * bcdDigit v 2 + 1000 * bcdDigit v 3

/-! ### Instructions that read memory -/

/-- One mnemonic's ten forms (41_binary_read.md R140). -/
structure AccForms where
  sr : Byte → Instr
  dp : Byte → Instr
  imm : Imm → Instr
  abs : Word → Instr
  long : Addr → Instr
  indY : Byte → Instr
  ind : Byte → Instr
  dpX : Byte → Instr
  absY : Word → Instr
  absX : Word → Instr

/-- The memory forms, each with its addressing mode. -/
def AccForms.memory (F : AccForms) (off : Byte) (addr : Word) (al : Addr) : List (Instr × Mode) :=
  [(F.sr off, .sr off), (F.dp off, .dp off), (F.abs addr, .abs addr), (F.long al, .abl al),
   (F.indY off, .iny off), (F.ind off, .ind off), (F.dpX off, .dpx off), (F.absY addr, .aby addr),
   (F.absX addr, .abx addr)]

/-- The instruction reads its operand through the mode at width `w`, makes exactly the calls of
40_addressing_modes.md R110 to R123, and then `result` is the whole change. -/
def ReadsBy (w : State → Width) (result : Width → Word → State → State) (f : Instr × Mode) : Prop :=
  ∀ s : State, exec f.1 s =
    .next (result (w s) (s.readValue f.2 (w s)) (s.afterRead f.2 (w s)))

/-- The same for an immediate operand of the width in force (40_addressing_modes.md R111). -/
def ImmediateBy (w : State → Width) (result : Width → Word → State → State) (i : Imm → Instr) : Prop :=
  ∀ (s : State) (v : Imm), v.fits (decide (w s = .w8)) = true →
    exec (i v) s = .next (result (w s) (immValue v) (s.afterImmediate (w s)))

/-- All ten forms of an accumulator mnemonic. -/
def AccForms.ReadBy (F : AccForms) (result : Width → Word → State → State) : Prop :=
  (∀ off addr al, ∀ f ∈ F.memory off addr al, ReadsBy State.widthA result f) ∧
  ImmediateBy State.widthA result F.imm

/-- The instruction makes one opcode fetch and one idle call, and then `result` is the whole change
(40_addressing_modes.md R120). -/
def ImpliedBy (i : Instr) (result : State → State) : Prop :=
  ∀ s : State, exec i s = .next (result s.afterImplied)

/-! ### Instructions that write memory -/

/-- The store `after` holds `v` at `ea` at width `w`, and every other byte is that of `before`. -/
def StoredAt (before after : Memory) (ea : EffAddr) (w : Width) (v : Word) : Prop :=
  after.wf = true ∧ after.read ea.lo = lowByte v ∧ (w = .w16 → after.read ea.hi = highByte v) ∧
  ∀ a, a ≠ ea.lo → (w = .w16 → a ≠ ea.hi) → after.read a = before.read a

/-- A store of `value` at width `w` (42_move_load.md R160, 40_addressing_modes.md R124). The address is that
of the mode in the state before. -/
def StoresBy (w : State → Width) (value : State → Word) (f : Instr × Mode) : Prop :=
  ∀ s : State,
    let ea := s.effAddr f.2
    let mem := s.mem.store ea (w s) (value s)
    exec f.1 s = .next
      { s.ranThrough (1 + f.2.operandBytes)
          (s.resolverCalls f.2 true ++ storeCalls ea (w s) (value s)) s.flags.i with
        mem := mem } ∧
    (s.mem.wf = true → StoredAt s.mem mem ea (w s) (value s))

/-- A modify instruction on memory (43_modify.md R200, 40_addressing_modes.md R125): `result` gives the value
written back and the flags, from the width, the operand, A at that width and the flags. -/
def ModifiesBy (result : Width → Word → Word → Flags → Word × Flags) (f : Instr × Mode) : Prop :=
  ∀ s : State,
    let w := s.widthA
    let ea := s.effAddr f.2
    let v := s.modifyValue f.2 w
    let r := result w v s.getA s.flags
    let mem := s.mem.modify s.flags.e ea w v r.1
    exec f.1 s = .next
      { s.ranThrough (1 + f.2.operandBytes)
          (s.resolverCalls f.2 true ++ s.operandReads (s.resolverCalls f.2 true).length ea w ++
            modifyCalls s.flags.e ea w v r.1) s.flags.i with
        flags := r.2
        mem := mem } ∧
    (s.mem.wf = true → StoredAt s.mem mem ea w r.1)

/-- ASL on a `w`-bit value (43_modify.md R201). -/
def aslResult (w : Width) (v _a : Word) (f : Flags) : Word × Flags :=
  let r := w.wrap (2 * v.toNat)
  (r, { f.withNZ w r with c := decide (2 ^ w.bits ≤ 2 * v.toNat) })

/-- LSR on a `w`-bit value (43_modify.md R202). -/
def lsrResult (w : Width) (v _a : Word) (f : Flags) : Word × Flags :=
  let r := w.wrap (v.toNat / 2)
  (r, { f with n := false, z := decide (v.toNat < 2), c := decide (v.toNat % 2 = 1) })

/-- ROL on a `w`-bit value (43_modify.md R203). -/
def rolResult (w : Width) (v _a : Word) (f : Flags) : Word × Flags :=
  let r := w.wrap (2 * v.toNat + f.c.toNat)
  (r, { f.withNZ w r with c := decide (2 ^ w.bits ≤ 2 * v.toNat) })

/-- ROR on a `w`-bit value (43_modify.md R204). -/
def rorResult (w : Width) (v _a : Word) (f : Flags) : Word × Flags :=
  let r := w.wrap (v.toNat / 2 + f.c.toNat * 2 ^ (w.bits - 1))
  (r, { f.withNZ w r with c := decide (v.toNat % 2 = 1) })

/-- INC on a `w`-bit value (43_modify.md R205). -/
def incResult (w : Width) (v _a : Word) (f : Flags) : Word × Flags :=
  let r := w.wrap (v.toNat + 1)
  (r, f.withNZ w r)

/-- DEC on a `w`-bit value (43_modify.md R206). -/
def decResult (w : Width) (v _a : Word) (f : Flags) : Word × Flags :=
  let r := w.wrap (v.toNat + 2 ^ w.bits - 1)
  (r, f.withNZ w r)

/-- TSB (43_modify.md R211). -/
def tsbResult (_w : Width) (v a : Word) (f : Flags) : Word × Flags :=
  (v ||| a, { f with z := decide (a &&& v = 0) })

/-- TRB (43_modify.md R212). -/
def trbResult (_w : Width) (v a : Word) (f : Flags) : Word × Flags :=
  (v &&& ~~~a, { f with z := decide (a &&& v = 0) })

/-- A modify instruction on the accumulator (43_modify.md R200). -/
def AccModifiedBy (i : Instr) (result : Width → Word → Word → Flags → Word × Flags) : Prop :=
  ImpliedBy i fun t =>
    let r := result t.widthA t.getA t.getA t.flags
    { t with regs.a := accWrite t.widthA t.regs.a r.1, flags := r.2 }

/-! ### The stack -/

/-- The store `after` holds the pushed bytes, the first one at the S before, and every other byte is that of
`before`. -/
def PushedAt (before after : Memory) (wrap : Bool) (sp : Word) (bytes : List Byte) : Prop :=
  after.wf = true ∧
  (∀ k b, bytes[k]? = some b → after.read (pushAddr wrap sp k) = b) ∧
  ∀ a, (∀ k, k < bytes.length → a ≠ pushAddr wrap sp k) → after.read a = before.read a

/-- The bytes of a value pushed at width `w`, most significant first (20_memory.md R74). -/
def Width.pushBytes (w : Width) (v : Word) : List Byte :=
  match w with
  | .w8 => [lowByte v]
  | .w16 => [highByte v, lowByte v]

/-- A push of `value` at width `w` (section 4 of 45_control_stack_system.md). -/
def PushesBy (i : Instr) (w : State → Width) (value : State → Word) : Prop :=
  ∀ s : State,
    let bytes := (w s).pushBytes (value s)
    let mem := s.mem.pushed s.flags.e s.regs.s 0 bytes
    exec i s = .next
      { s.ranThrough 1 (s.fetchCalls 1 ++ [.idle] ++ pushCalls s.flags.e s.regs.s 0 bytes) s.flags.i with
        regs.s := stackDowns s.flags.e s.regs.s bytes.length
        mem := mem } ∧
    (s.mem.wf = true → PushedAt s.mem mem s.flags.e s.regs.s bytes)

/-- How many bytes a width has. -/
def Width.bytes : Width → Nat
  | .w8 => 1
  | .w16 => 2

/-- The value of `w.bytes` pulls, the first one bus call number `n`, low byte first. -/
def State.pulledValue (s : State) (wrap : Bool) (n : Nat) (w : Width) : Word :=
  match w with
  | .w8 => zeroExt (s.pulledByte wrap n 0)
  | .w16 => joinBytes (s.pulledByte wrap n 1) (s.pulledByte wrap n 0)

/-- A pull at width `w` (section 5 of 45_control_stack_system.md), then `result`. -/
def PullsBy (i : Instr) (w : State → Width) (result : Width → Word → State → State) : Prop :=
  ∀ s : State, exec i s = .next (result (w s) (s.pulledValue s.flags.e 3 (w s))
    { s.ranThrough 1 (s.fetchCalls 1 ++ [.idle, .idle] ++ s.pullCalls s.flags.e 3 (w s).bytes)
        s.flags.i with
      regs.s := stackUps s.flags.e s.regs.s (w s).bytes })

/-- A state with the flags of a flag byte (10_state.md R34, R36). -/
def State.flagsLoaded (t : State) (b : Byte) : State :=
  { t with
    flags := flagsFromByte b t.flags
    regs.x := indexFit (flagsFromByte b t.flags).xf t.regs.x
    regs.y := indexFit (flagsFromByte b t.flags).xf t.regs.y }

/-! ### Exceptions -/

/-- The state after an interrupt or BRK has been taken from `s`, `len` instruction bytes and the bus calls
`calls` into the step: the frame pushed, I set, DF cleared, PBR:PC at the address read from the vector `v`
(60_exceptions.md R301, 45_control_stack_system.md R244). Nothing else changes. -/
def State.entered (s : State) (len : Nat) (calls : List BusCall) (v : Addr) (breakFlag : Bool) : State :=
  let frame := exceptionFrame s.flags s.regs.pbr (s.regs.pc + BitVec.ofNat 16 len) breakFlag
  let mem := s.mem.pushed s.flags.e s.regs.s 0 frame
  let n := calls.length + frame.length
  let lo := s.byteIn mem n v
  let hi := s.byteIn mem (n + 1) (v + 1)
  { s.ranThrough len
      (calls ++ pushCalls s.flags.e s.regs.s 0 frame ++ [.read v lo, .read (v + 1) hi]) true with
    regs.s := stackDowns s.flags.e s.regs.s frame.length
    regs.pc := joinBytes hi lo
    regs.pbr := 0x00
    flags.i := true
    flags.df := false
    mem := mem }

/-- A state once the step has consumed `ilatch` and acknowledged the event (60_exceptions.md R300 step 2,
R302). -/
def State.accepted (s : State) (line : InterruptLine) : State :=
  { s with log := [], ilatch := none, line := line }

/-! ### Who writes what -/

/-- ADC, SBC, BIT with a memory operand, CLV, REP, SEP, PLP, RTI: the writers of V (10_state.md R31). -/
def writesV : Instr → Bool
  | .adcSr _ | .adcDp _ | .adcImm _ | .adcAbs _ | .adcLong _ | .adcIndY _ | .adcInd _ | .adcDpX _
  | .adcAbsY _ | .adcAbsX _ | .sbcSr _ | .sbcDp _ | .sbcImm _ | .sbcAbs _ | .sbcLong _ | .sbcIndY _
  | .sbcInd _ | .sbcDpX _ | .sbcAbsY _ | .sbcAbsX _ | .bitDp _ | .bitAbs _ | .bitDpX _ | .bitAbsX _
  | .clv | .rep _ | .sep _ | .plp | .rti => true
  | _ => false

/-- SED, CLD, REP, SEP, PLP, RTI, BRK: the writers of DF (10_state.md R31). -/
def writesDF : Instr → Bool
  | .sed | .cld | .rep _ | .sep _ | .plp | .rti | .brk _ => true
  | _ => false

/-- SEI, CLI, REP, SEP, PLP, RTI, BRK: the writers of I (10_state.md R31). -/
def writesI : Instr → Bool
  | .sei | .cli | .rep _ | .sep _ | .plp | .rti | .brk _ => true
  | _ => false

/-- REP, SEP, PLP, RTI, XCE: the writers of M and XF (10_state.md R31). -/
def writesWidths : Instr → Bool
  | .rep _ | .sep _ | .plp | .rti | .xce => true
  | _ => false

/-- JML, JSL, RTL, RTI, BRK: the instructions that write PBR (10_state.md R28). -/
def writesPBR : Instr → Bool
  | .jml _ | .jsl _ | .rtl | .rti | .brk _ => true
  | _ => false

/-- PLB, MVN, MVP: the instructions that write DBR (10_state.md R25). -/
def writesDBR : Instr → Bool
  | .plb | .mvn _ _ | .mvp _ _ => true
  | _ => false

/-- TCD, PLD: the instructions that write D (10_state.md R25). -/
def writesD : Instr → Bool
  | .tcd | .pld => true
  | _ => false

/-- TXS, TCS, pushes, pulls, JSR, JSL, RTS, RTL, RTI, BRK, XCE: the instructions that write S
(10_state.md R24). -/
def writesS : Instr → Bool
  | .txs | .tcs | .pha | .phx | .phy | .php | .phb | .phk | .phd | .pla | .plx | .ply | .plp | .plb | .pld
  | .jsr _ | .jsl _ | .rts | .rtl | .rti | .brk _ | .xce => true
  | _ => false

/-- The flag I that an instruction's own poll sees: RTI restores I before it and BRK sets I before it; every
other instruction writes I, if at all, after it (60_exceptions.md R299). -/
def polledI (i : Instr) (before after : State) : Bool :=
  match i with
  | .rti => after.flags.i
  | .brk _ => true
  | _ => before.flags.i

end Sys2Proof.Machine
end

