-- ==== Sys2Proof/Certificates/Slice0/Obligations.lean ====
section
/-! DEFINITION. The statements for the provers, by spec file: encoding, the step, exceptions, state, the
instruction families, and rules about the whole machine. The vocabulary is that of Sys2Proof/Safety.lean and
Sys2Proof/Machine/Trace.lean. R<n> is a rule of the spec. What the Bus answers and when the lines move is open
in the spec; here it is the script `env` of the state (logs 3 and 4), and every statement without the premise
`Quiet` holds for every script. -/

open Sys2Proof Sys2Proof.Machine

/-! ### Encoding (30_encoding.md) -/

/-- Decode and encode agree: a well-formed instruction is read back from its bytes, whatever follows. -/
def Obligations.DecodeEncode : Prop :=
  ∀ (m xf : Bool) (i : Instr) (rest : List Byte),
    WellFormed m xf i = true → decode m xf (encode i ++ rest) = .instr i rest

/-- What the decoder reads is well-formed and its encoding is the bytes read: no byte has two readings. -/
def Obligations.EncodeDecode : Prop :=
  ∀ (m xf : Bool) (bytes rest : List Byte) (i : Instr),
    decode m xf bytes = .instr i rest → WellFormed m xf i = true ∧ encode i ++ rest = bytes

/-- The unimplemented byte values are the 51 of R98. -/
def Obligations.UnimplementedBytes : Prop :=
  ∀ (m xf : Bool) (op : Byte) (rest : List Byte),
    decode m xf (op :: rest) = .unimplemented op ↔
      op.toNat ∈
        [0x01, 0x02, 0x07, 0x13, 0x17, 0x1F, 0x21, 0x27, 0x33, 0x37, 0x3F, 0x41, 0x42, 0x47, 0x53, 0x57,
         0x5F, 0x61, 0x62, 0x67, 0x73, 0x77, 0x7C, 0x7F, 0x81, 0x82, 0x87, 0x93, 0x97, 0x9F, 0xA1, 0xA7,
         0xB3, 0xB7, 0xBF, 0xC1, 0xC7, 0xCB, 0xD3, 0xD4, 0xD7, 0xDB, 0xDC, 0xDF, 0xE1, 0xE7, 0xF3, 0xF4,
         0xF7, 0xFC, 0xFF]

/-- A few words of the encoding tables, one for each operand format. -/
def Obligations.SampleWords : Prop :=
  decode true true [0x6D, 0x34, 0x12] = .instr (.adcAbs 0x1234) [] ∧
  decode true true [0xA9, 0x12] = .instr (.ldaImm (.byte 0x12)) [] ∧
  decode false true [0xA9, 0x34, 0x12] = .instr (.ldaImm (.word 0x1234)) [] ∧
  decode true false [0xA2, 0x34, 0x12] = .instr (.ldxImm (.word 0x1234)) [] ∧
  decode true true [0x54, 0x7F, 0x7E] = .instr (.mvn 0x7F 0x7E) [] ∧
  decode true true [0x5C, 0x34, 0x12, 0x7E] = .instr (.jml 0x7E1234) [] ∧
  decode true true [0xD0, 0xFB] = .instr (.bne 0xFB) [] ∧
  decode true true [0xE8] = .instr .inx []

/-! ### The step (60_exceptions.md section 3) -/

/-- A step runs the decoded instruction: with no fault recorded and nothing latched, and with the bytes that
the fetches return reading as `i`, `step` is `exec i`, on a fresh cycle log. `exec` makes the fetches
itself. -/
def Obligations.StepRunsDecoded : Prop :=
  ∀ (s : State) (i : Instr) (rest : List Byte),
    s.fault = none → s.ilatch = none →
    decode s.flags.m s.flags.xf s.instrBytes = .instr i rest → step s = exec i s.beginStep

/-- The same from the bytes that stand in the store: with a Bus that answers from its store, the bytes at
`PBR:PC` are what runs. JSL alone pushes a byte before its last fetch; it must not push onto that byte. -/
def Obligations.StepRunsStored : Prop :=
  ∀ (s : State) (i : Instr) (rest : List Byte),
    s.Quiet → s.mem.wf = true → s.fault = none → s.ilatch = none →
    decode s.flags.m s.flags.xf s.storedBytes = .instr i rest →
    ((∃ a, i = .jsl a) → pushAddr false s.regs.s 0 ≠ s.codeAddr 3) →
    step s = exec i s.beginStep

/-- The unimplemented opcode (R290): the step returns the error, and the state it leaves has one read made, PC
advanced by one, the fault recorded, nothing else changed. That the error carries that state is the model's
form (log 10). -/
def Obligations.UnimplementedOpcodeRecorded : Prop :=
  ∀ s : State, s.fault = none → s.ilatch = none → opcodeFormat (s.byteAt 0 s.fetchAddr) = none →
    let error : FaultRecord := { pc := s.fetchAddr, opcode := s.byteAt 0 s.fetchAddr }
    step s = .fault (.unimplementedOpcode error
      { s.beginStep.afterCalls 1 [.read s.fetchAddr (s.byteAt 0 s.fetchAddr)] with fault := some error })

/-- The fault is terminal (R291): with a fault recorded, every step returns that fault and leaves the state as
it is, with no bus call in the cycle log (logs 6 and 10). -/
def Obligations.RecordedFaultIsTerminal : Prop :=
  ∀ (s : State) (r : FaultRecord), s.fault = some r → step s = .fault (.unimplementedOpcode r s.beginStep)

/-- The only stop is the fault (R292): every step is safe, and a step answers a next state exactly where no
fault is recorded and, if nothing is latched, the opcode byte is not unimplemented. That an error comes with
the state that records it is the model's form (log 10). -/
def Obligations.OnlyRecordedFaultStops : Prop :=
  ∀ s : State, SafeOutcome (step s) ∧ ((∃ t, step s = .next t) ↔
    s.fault = none ∧ (s.ilatch = none → opcodeFormat (s.byteAt 0 s.fetchAddr) ≠ none))

/-- The bus calls of a step: none with a fault recorded (R291), one if it raises `UnimplementedOpcode` (R290),
two or more else (R313). That the state a failed step leaves can be spoken of is the model's form (log 10). -/
def Obligations.StepBusCalls : Prop :=
  ∀ s t : State, StepLeaves s t →
    if s.fault ≠ none then t.log.length = 0 else if t.fault ≠ none then t.log.length = 1 else 2 ≤ t.log.length

/-- `POLL` selects by priority, and latches IRQ only while I = 0 (R296, R298). It writes `ilatch` alone. -/
def Obligations.PollSelects : Prop :=
  ∀ s : State,
    let k := (poll s).2.ilatch
    (poll s).2 = { s with ilatch := k } ∧
    (k = some .reset ↔ s.line.reset = true) ∧
    (k = some .nmi ↔ s.line.reset = false ∧ s.line.nmi = true) ∧
    (k = some .irq ↔ s.line.reset = false ∧ s.line.nmi = false ∧ s.line.irq = true ∧ s.flags.i = false)

/-! ### Exceptions and reset (60_exceptions.md, 70_reset_and_hazards.md) -/

/-- A latched NMI or IRQ is taken (R301): the abandoned opcode is read and discarded, one idle, the frame is
pushed with `break_flag` 0, I = 1, DF = 0, and PBR:PC is the vector's address (R304). The acknowledge drops
the NMI line and not the IRQ line (R302). Nothing else changes; in memory only the bytes of the frame. -/
def Obligations.InterruptTaken : Prop :=
  ∀ s : State, s.fault = none →
    let nmi := s.accepted { s.line with nmi := false }
    let irq := s.accepted s.line
    let afterNmi := nmi.entered 0 [nmi.readCall 0 s.fetchAddr, .idle]
      (if s.flags.e then 0x00FFFA else 0x00FFEA) false
    let afterIrq := irq.entered 0 [irq.readCall 0 s.fetchAddr, .idle]
      (if s.flags.e then 0x00FFFE else 0x00FFEE) false
    let frame := (if s.flags.e then [] else [s.regs.pbr]) ++
      [highByte s.regs.pc, lowByte s.regs.pc, flagsToByte false s.flags]
    (s.ilatch = some .nmi → step s = .next afterNmi) ∧
    (s.ilatch = some .irq → step s = .next afterIrq) ∧
    (s.mem.wf = true → PushedAt s.mem afterNmi.mem s.flags.e s.regs.s frame ∧
      PushedAt s.mem afterIrq.mem s.flags.e s.regs.s frame)

/-- The reset sequence (R331): seven calls, no write, the forced values of R332, everything else kept. -/
def Obligations.ResetSequence : Prop :=
  ∀ s : State, s.fault = none → s.ilatch = some .reset →
    let t := s.accepted { s.line with reset := false }
    let sl := lowByte s.regs.s
    let calls :=
      [t.readCall 0 s.fetchAddr, .idle, t.readCall 2 (bankAddr 0x00 (joinBytes 0x01 sl)),
       t.readCall 3 (bankAddr 0x00 (joinBytes 0x01 (sl - 1))),
       t.readCall 4 (bankAddr 0x00 (joinBytes 0x01 (sl - 2))),
       t.readCall 5 0x00FFFC, t.readCall 6 0x00FFFD]
    step s = .next
      { t.ranThrough 0 calls true with
        regs :=
          { a := s.regs.a, x := joinBytes 0x00 (lowByte s.regs.x), y := joinBytes 0x00 (lowByte s.regs.y),
            s := joinBytes 0x01 (sl - 3), d := 0, pc := joinBytes (t.byteAt 6 0x00FFFD) (t.byteAt 5 0x00FFFC),
            pbr := 0x00, dbr := 0x00 }
        flags :=
          { n := s.flags.n, v := s.flags.v, m := true, xf := true, df := false, i := true, z := s.flags.z,
            c := s.flags.c, e := true } }

/-- The first step after power-on, over a Bus that answers from its store: execution goes to the vector at
0x00FFFC in emulation mode, S is three less in page 1, and memory is untouched, for every choice of the
`POWERON_*` values (10_state.md R50, R52; 70_reset_and_hazards.md R333). -/
def Obligations.PowerOnFirstStep : Prop :=
  ∀ (p : PowerOn) (mem : Memory), ∃ t : State,
    step (State.powerOn p mem []) = .next t ∧
    t.regs.pc = joinBytes (mem.read 0x00FFFD) (mem.read 0x00FFFC) ∧ t.regs.pbr = 0x00 ∧
    t.regs.s = joinBytes 0x01 (p.sl - 3) ∧ t.regs.a = p.a ∧ t.regs.d = 0 ∧ t.regs.dbr = 0x00 ∧
    t.regs.x = joinBytes 0x00 p.xl ∧ t.regs.y = joinBytes 0x00 p.yl ∧
    t.flags =
      { n := p.n, v := p.v, m := true, xf := true, df := false, i := true, z := p.z, c := p.c, e := true } ∧
    t.ilatch = none ∧ t.fault = none ∧ t.mem = mem ∧ t.log.length = 7

/-! ### Invariants and state (10_state.md, 20_memory.md) -/

/-- Every step keeps the invariant: the store's canonical form (the model's own, log 3), the widths and the
stack page of emulation mode, the index high bytes (R24, R30, R36). A step that returns the fault keeps it too,
in the state that its error carries (log 10). -/
def Obligations.StepKeepsInv : Prop := ∀ s t : State, s.Inv → StepLeaves s t → t.Inv

/-- The invariant holds at power-on, and at the state after reset of the host's interface. -/
def Obligations.PowerOnInv : Prop :=
  (∀ (p : PowerOn) (mem : Memory) (env : List BusEvent), mem.wf = true → (State.powerOn p mem env).Inv) ∧
  Sys2Proof.core.reset = State.reset ∧ State.reset.Inv

/-- The store is the fixture memory of 20_memory.md R61: `read` returns the stored byte, `write` replaces it
and no other, and missing addresses read as 0. The canonical form is the model's own (log 3): a write
keeps it, and two stores in that form that answer every read alike are equal. -/
def Obligations.FixtureMemory : Prop :=
  (∀ a : Addr, Memory.read [] a = 0x00) ∧
  (∀ mem : Memory, mem.wf = true → ∀ (a b : Addr) (v : Byte),
    (mem.write a v).wf = true ∧ (mem.write a v).read b = if b = a then v else mem.read b) ∧
  ∀ m n : Memory, m.wf = true → n.wf = true → (∀ a : Addr, m.read a = n.read a) → m = n

/-- The flag byte (R33, R34, R35): its layout bit by bit, and the round trip on mask 0xFF in native mode and
0xCF in emulation mode. That loading it in emulation mode leaves M and XF as they are, also in the states with
M or XF = 0 there, which no run reaches, is log 11. -/
def Obligations.FlagByte : Prop :=
  (∀ (f : Flags) (b : Bool) (k : Nat), (flagsToByte b f).getLsbD k =
    match k with
    | 7 => f.n
    | 6 => f.v
    | 5 => if f.e then true else f.m
    | 4 => if f.e then b else f.xf
    | 3 => f.df
    | 2 => f.i
    | 1 => f.z
    | 0 => f.c
    | _ => false) ∧
  (∀ (s : State) (b : Byte) (k : Bool),
    let t := s.loadFlags b
    let mask : Byte := if s.flags.e then 0xCF else 0xFF
    flagsToByte k t.flags &&& mask = b &&& mask ∧ t.flags.e = s.flags.e ∧
    (s.flags.e = true → t.flags.m = s.flags.m ∧ t.flags.xf = s.flags.xf) ∧
    t.regs.x = indexFit t.flags.xf s.regs.x ∧ t.regs.y = indexFit t.flags.xf s.regs.y)

/-- The width-dependent registers (R22, R23) and the stack page (R24): what `getA` reads and what the writes
leave. An 8-bit write keeps `A[15:8]` and zeroes an index register's high byte. -/
def Obligations.RegisterWidths : Prop :=
  ∀ (s : State) (v : Word),
    s.getA = (if s.flags.m then joinBytes 0x00 (lowByte s.regs.a) else s.regs.a) ∧
    s.setA v =
      { s with regs.a := if s.flags.m then joinBytes (highByte s.regs.a) (lowByte v) else v } ∧
    s.setX v = { s with regs.x := indexFit s.flags.xf v } ∧
    s.setY v = { s with regs.y := indexFit s.flags.xf v } ∧
    s.setS v = { s with regs.s := pageFixed s.flags.e v }

/-- The direct page (40_addressing_modes.md R126) and the page-cross predicate (R127), as numbers. -/
def Obligations.AddressFormation : Prop :=
  (∀ (s : State) (o n : Word), (s.directAddr o n).toNat =
    if s.flags.e = true ∧ s.regs.d.toNat % 256 = 0 then
      s.regs.d.toNat / 256 * 256 + (o.toNat + n.toNat) % 256
    else (s.regs.d.toNat + o.toNat + n.toNat) % 65536) ∧
  (∀ base i : Word, pageCross base i = true ↔ (base.toNat + i.toNat) / 256 ≠ base.toNat / 256) ∧
  (∀ (s : State) (base i : Word), (s.indexedAddr base i).toNat =
    (s.regs.dbr.toNat * 65536 + base.toNat + i.toNat) % 16777216)

/-! ### Arithmetic (41_binary_read.md) -/

/-- The carry and overflow law (R150) for `w`-bit operands: the result modulo 2^w, the carry out of bit w-1,
and overflow exactly where the signed sum has no `w`-bit representation. -/
def Obligations.CarryOverflowLaw : Prop :=
  ∀ (w : Width) (a m : Word) (c : Bool), a.toNat < 2 ^ w.bits → m.toNat < 2 ^ w.bits →
    let r := a.toNat + m.toNat + c.toNat
    let signed (v : Word) : Int := if v.toNat < 2 ^ (w.bits - 1) then v.toNat else v.toNat - 2 ^ w.bits
    let t := signed a + signed m + c.toNat
    (binarySum w a m c).value = w.wrap r ∧
    ((binarySum w a m c).c = true ↔ 2 ^ w.bits ≤ r) ∧
    ((binarySum w a m c).v = true ↔ t < -2 ^ (w.bits - 1) ∨ 2 ^ (w.bits - 1) ≤ t)

/-- Decimal ADC and SBC (R151, R152) on operands whose digits are decimal: the result's digits are decimal, and
it is the decimal sum or difference, C the decimal carry or no borrow. -/
def Obligations.DecimalArithmetic : Prop :=
  ∀ (w : Width) (a m : Word) (c : Bool), ValidBcd a → ValidBcd m →
    a.toNat < 2 ^ w.bits → m.toNat < 2 ^ w.bits →
    let base : Nat := 10 ^ (w.bits / 4)
    let sum := adcSum true w a m c
    let dif := sbcSum true w a m c
    ValidBcd sum.value ∧ bcdValue sum.value + (if sum.c then base else 0) = bcdValue a + bcdValue m + c.toNat ∧
    ValidBcd dif.value ∧
    bcdValue dif.value + bcdValue m + (1 - c.toNat) = bcdValue a + (if dif.c then 0 else base)

/-- ORA, AND, EOR (R141 to R143) in their ten forms. -/
def Obligations.LogicResults : Prop :=
  AccForms.ReadBy ⟨.oraSr, .oraDp, .oraImm, .oraAbs, .oraLong, .oraIndY, .oraInd, .oraDpX, .oraAbsY, .oraAbsX⟩
    (fun w m t => t.accResult w (t.getA ||| m)) ∧
  AccForms.ReadBy ⟨.andSr, .andDp, .andImm, .andAbs, .andLong, .andIndY, .andInd, .andDpX, .andAbsY, .andAbsX⟩
    (fun w m t => t.accResult w (t.getA &&& m)) ∧
  AccForms.ReadBy ⟨.eorSr, .eorDp, .eorImm, .eorAbs, .eorLong, .eorIndY, .eorInd, .eorDpX, .eorAbsY, .eorAbsX⟩
    (fun w m t => t.accResult w (t.getA ^^^ m))

/-- ADC (R144) in its ten forms: in binary the sum modulo 2^w, C the carry, V set where operands of one sign
give the other sign; in decimal the algorithm of R151. N and Z come from the stored result. -/
def Obligations.AdcResults : Prop :=
  AccForms.ReadBy ⟨.adcSr, .adcDp, .adcImm, .adcAbs, .adcLong, .adcIndY, .adcInd, .adcDpX, .adcAbsY, .adcAbsX⟩
    (fun w m t =>
      let a := t.getA
      let sum := a.toNat + m.toNat + t.flags.c.toNat
      let dec := match w with
        | .w8 => decimalAdc8 a m t.flags.c
        | .w16 => decimalAdc16 a m t.flags.c
      let sign (v : Word) := v.getLsbD (w.bits - 1)
      let r := if t.flags.df then dec.value else w.wrap sum
      { t.accResult w r with
        flags := { t.flags.withNZ w r with
          v := if t.flags.df then dec.v else decide (sign a = sign m ∧ sign r ≠ sign a)
          c := if t.flags.df then dec.c else decide (2 ^ w.bits ≤ sum) } })

/-- SBC (R145) in its ten forms: in binary the difference with borrow modulo 2^w, C = 1 where there is no
borrow, V set where operands of unlike sign give the sign of the operand; in decimal the algorithm of R152 on
the complemented operand. -/
def Obligations.SbcResults : Prop :=
  AccForms.ReadBy ⟨.sbcSr, .sbcDp, .sbcImm, .sbcAbs, .sbcLong, .sbcIndY, .sbcInd, .sbcDpX, .sbcAbsY, .sbcAbsX⟩
    (fun w m t =>
      let a := t.getA
      let borrow := 1 - t.flags.c.toNat
      let dec := match w with
        | .w8 => decimalSbc8 a (w.wrap (255 - m.toNat)) t.flags.c
        | .w16 => decimalSbc16 a (w.wrap (65535 - m.toNat)) t.flags.c
      let sign (v : Word) := v.getLsbD (w.bits - 1)
      let r := if t.flags.df then dec.value else w.wrap (a.toNat + 2 ^ w.bits - m.toNat - borrow)
      { t.accResult w r with
        flags := { t.flags.withNZ w r with
          v := if t.flags.df then dec.v else decide (sign a ≠ sign m ∧ sign r ≠ sign a)
          c := if t.flags.df then dec.c else decide (m.toNat + borrow ≤ a.toNat) } })

/-- CMP, CPX, CPY (R146 to R148): the unsigned comparison in C, N and Z of the difference, no register. -/
def Obligations.CompareResults : Prop :=
  AccForms.ReadBy ⟨.cmpSr, .cmpDp, .cmpImm, .cmpAbs, .cmpLong, .cmpIndY, .cmpInd, .cmpDpX, .cmpAbsY, .cmpAbsX⟩
    (fun w m t => t.compareResult w t.getA m) ∧
  (∀ off addr, ∀ f ∈ [(Instr.cpxDp off, Mode.dp off), (.cpxAbs addr, .abs addr)],
    ReadsBy State.widthX (fun w m t => t.compareResult w (w.trunc t.regs.x) m) f) ∧
  ImmediateBy State.widthX (fun w m t => t.compareResult w (w.trunc t.regs.x) m) .cpxImm ∧
  (∀ off addr, ∀ f ∈ [(Instr.cpyDp off, Mode.dp off), (.cpyAbs addr, .abs addr)],
    ReadsBy State.widthX (fun w m t => t.compareResult w (w.trunc t.regs.y) m) f) ∧
  ImmediateBy State.widthX (fun w m t => t.compareResult w (w.trunc t.regs.y) m) .cpyImm

/-- BIT (R149): N and V are the operand's two top bits, Z is of the AND with A; the immediate form writes Z
alone. -/
def Obligations.BitResults : Prop :=
  (∀ off addr, ∀ f ∈ [(Instr.bitDp off, Mode.dp off), (.bitAbs addr, .abs addr), (.bitDpX off, .dpx off),
      (.bitAbsX addr, .abx addr)],
    ReadsBy State.widthA (fun w m t =>
      { t with
        flags.n := m.getLsbD (w.bits - 1)
        flags.v := m.getLsbD (w.bits - 2)
        flags.z := decide (t.getA &&& m = 0) }) f) ∧
  ImmediateBy State.widthA (fun _ m t => { t with flags.z := decide (t.getA &&& m = 0) }) .bitImm

/-! ### Loads, stores, transfers (42_move_load.md) -/

/-- LDA, LDX, LDY (R161 to R163): the operand in the register at its width, N and Z. -/
def Obligations.LoadResults : Prop :=
  AccForms.ReadBy ⟨.ldaSr, .ldaDp, .ldaImm, .ldaAbs, .ldaLong, .ldaIndY, .ldaInd, .ldaDpX, .ldaAbsY, .ldaAbsX⟩
    (fun w m t => t.accResult w m) ∧
  (∀ off addr, ∀ f ∈ [(Instr.ldxDp off, Mode.dp off), (.ldxAbs addr, .abs addr), (.ldxDpY off, .dpy off),
      (.ldxAbsY addr, .aby addr)], ReadsBy State.widthX (fun w m t => t.xResult w m) f) ∧
  ImmediateBy State.widthX (fun w m t => t.xResult w m) .ldxImm ∧
  (∀ off addr, ∀ f ∈ [(Instr.ldyDp off, Mode.dp off), (.ldyAbs addr, .abs addr), (.ldyDpX off, .dpx off),
      (.ldyAbsX addr, .abx addr)], ReadsBy State.widthX (fun w m t => t.yResult w m) f) ∧
  ImmediateBy State.widthX (fun w m t => t.yResult w m) .ldyImm

/-- STA, STX, STY, STZ (R164 to R167): the value at its width at the mode's address, every other byte of
memory and everything else as before. -/
def Obligations.StoreResults : Prop :=
  ∀ off addr al,
    (∀ f ∈ [(Instr.staSr off, Mode.sr off), (.staDp off, .dp off), (.staAbs addr, .abs addr),
        (.staLong al, .abl al), (.staIndY off, .iny off), (.staInd off, .ind off), (.staDpX off, .dpx off),
        (.staAbsY addr, .aby addr), (.staAbsX addr, .abx addr)],
      StoresBy State.widthA State.getA f) ∧
    (∀ f ∈ [(Instr.stxDp off, Mode.dp off), (.stxAbs addr, .abs addr), (.stxDpY off, .dpy off)],
      StoresBy State.widthX (fun s => s.widthX.trunc s.regs.x) f) ∧
    (∀ f ∈ [(Instr.styDp off, Mode.dp off), (.styAbs addr, .abs addr), (.styDpX off, .dpx off)],
      StoresBy State.widthX (fun s => s.widthX.trunc s.regs.y) f) ∧
    (∀ f ∈ [(Instr.stzDp off, Mode.dp off), (.stzDpX off, .dpx off), (.stzAbs addr, .abs addr),
        (.stzAbsX addr, .abx addr)],
      StoresBy State.widthA (fun _ => 0) f)

/-- TAX, TAY, TSX, TXY, TYX (R170, R171, R175 to R177): the width is that of the index registers. -/
def Obligations.IndexTransfers : Prop :=
  ImpliedBy .tax (fun t => t.xResult t.widthX (t.widthX.trunc t.regs.a)) ∧
  ImpliedBy .tay (fun t => t.yResult t.widthX (t.widthX.trunc t.regs.a)) ∧
  ImpliedBy .tsx (fun t => t.xResult t.widthX (t.widthX.trunc t.regs.s)) ∧
  ImpliedBy .txy (fun t => t.yResult t.widthX (t.widthX.trunc t.regs.x)) ∧
  ImpliedBy .tyx (fun t => t.xResult t.widthX (t.widthX.trunc t.regs.y))

/-- TXA, TYA, TCD, TDC, TSC (R172, R173, R178, R179, R181), and TXS, TCS (R174, R180), which write no flag and
keep S in page 1 while E = 1. -/
def Obligations.AccStackTransfers : Prop :=
  ImpliedBy .txa (fun t => t.accResult t.widthA (t.widthA.trunc t.regs.x)) ∧
  ImpliedBy .tya (fun t => t.accResult t.widthA (t.widthA.trunc t.regs.y)) ∧
  ImpliedBy .tcd (fun t => { t with regs.d := t.regs.a, flags := t.flags.withNZ .w16 t.regs.a }) ∧
  ImpliedBy .tdc (fun t => t.accResult .w16 t.regs.d) ∧
  ImpliedBy .tsc (fun t => t.accResult .w16 t.regs.s) ∧
  ImpliedBy .txs (fun t => { t with regs.s := pageFixed t.flags.e t.regs.x }) ∧
  ImpliedBy .tcs (fun t => { t with regs.s := pageFixed t.flags.e t.regs.a })

/-- XBA (R182): the bytes of A exchanged in three bus calls, N and Z from the new low byte at 8 bits. -/
def Obligations.XbaResult : Prop :=
  ∀ s : State, exec .xba s = .next
    { s.ranThrough 1 (s.fetchCalls 1 ++ [.idle, .idle]) s.flags.i with
      regs.a := joinBytes (lowByte s.regs.a) (highByte s.regs.a)
      flags := s.flags.withNZ .w8 (zeroExt (highByte s.regs.a)) }

/-! ### Modify instructions (43_modify.md) -/

/-- ASL, LSR, ROL, ROR (R201 to R204), on memory and on the accumulator (two bus calls, no dummy write). -/
def Obligations.ShiftResults : Prop :=
  (∀ off addr,
    (∀ f ∈ [(Instr.aslDp off, Mode.dp off), (.aslAbs addr, .abs addr), (.aslDpX off, .dpx off),
        (.aslAbsX addr, .abx addr)], ModifiesBy aslResult f) ∧
    (∀ f ∈ [(Instr.lsrDp off, Mode.dp off), (.lsrAbs addr, .abs addr), (.lsrDpX off, .dpx off),
        (.lsrAbsX addr, .abx addr)], ModifiesBy lsrResult f) ∧
    (∀ f ∈ [(Instr.rolDp off, Mode.dp off), (.rolAbs addr, .abs addr), (.rolDpX off, .dpx off),
        (.rolAbsX addr, .abx addr)], ModifiesBy rolResult f) ∧
    (∀ f ∈ [(Instr.rorDp off, Mode.dp off), (.rorAbs addr, .abs addr), (.rorDpX off, .dpx off),
        (.rorAbsX addr, .abx addr)], ModifiesBy rorResult f)) ∧
  AccModifiedBy .aslAcc aslResult ∧ AccModifiedBy .lsrAcc lsrResult ∧ AccModifiedBy .rolAcc rolResult ∧
  AccModifiedBy .rorAcc rorResult

/-- INC and DEC (R205, R206), on memory and on the accumulator. -/
def Obligations.IncDecResults : Prop :=
  (∀ off addr,
    (∀ f ∈ [(Instr.incDp off, Mode.dp off), (.incAbs addr, .abs addr), (.incDpX off, .dpx off),
        (.incAbsX addr, .abx addr)], ModifiesBy incResult f) ∧
    (∀ f ∈ [(Instr.decDp off, Mode.dp off), (.decAbs addr, .abs addr), (.decDpX off, .dpx off),
        (.decAbsX addr, .abx addr)], ModifiesBy decResult f)) ∧
  AccModifiedBy .incAcc incResult ∧ AccModifiedBy .decAcc decResult

/-- TSB and TRB (R211, R212): the bits of A set or cleared in memory, Z of the AND, no other flag. -/
def Obligations.TestAndSetResults : Prop :=
  ∀ off addr,
    (∀ f ∈ [(Instr.tsbDp off, Mode.dp off), (.tsbAbs addr, .abs addr)], ModifiesBy tsbResult f) ∧
    (∀ f ∈ [(Instr.trbDp off, Mode.dp off), (.trbAbs addr, .abs addr)], ModifiesBy trbResult f)

/-- INX, INY, DEX, DEY (R207 to R210): plus or minus one modulo 2^wX. -/
def Obligations.IndexIncDecResults : Prop :=
  ImpliedBy .inx (fun t => t.xResult t.widthX (t.widthX.wrap (t.regs.x.toNat + 1))) ∧
  ImpliedBy .iny (fun t => t.yResult t.widthX (t.widthX.wrap (t.regs.y.toNat + 1))) ∧
  ImpliedBy .dex (fun t => t.xResult t.widthX (t.widthX.wrap (t.regs.x.toNat + 65535))) ∧
  ImpliedBy .dey (fun t => t.yResult t.widthX (t.widthX.wrap (t.regs.y.toNat + 65535)))

/-! ### Branches (44_branch.md) -/

/-- Every branch (R220 to R229): not taken, two calls; taken, three, or four across a page in emulation mode,
and PC is the signed displacement from the next instruction, within the bank. -/
def Obligations.BranchResults : Prop :=
  ∀ (s : State) (disp : Byte),
    let next := s.regs.pc + 2
    let target := BitVec.ofInt 16 (next.toNat + disp.toInt)
    let crossed := s.flags.e = true ∧ target.toNat / 256 ≠ next.toNat / 256
    let calls := s.fetchCalls 2 ++ List.replicate (if crossed then 2 else 1) .idle
    let notTaken := s.ranThrough 2 (s.fetchCalls 2) s.flags.i
    let taken : State := { s.ranThrough 2 calls s.flags.i with regs.pc := target }
    exec (.bpl disp) s = .next (if s.flags.n = false then taken else notTaken) ∧
    exec (.bmi disp) s = .next (if s.flags.n = true then taken else notTaken) ∧
    exec (.bvc disp) s = .next (if s.flags.v = false then taken else notTaken) ∧
    exec (.bvs disp) s = .next (if s.flags.v = true then taken else notTaken) ∧
    exec (.bcc disp) s = .next (if s.flags.c = false then taken else notTaken) ∧
    exec (.bcs disp) s = .next (if s.flags.c = true then taken else notTaken) ∧
    exec (.bne disp) s = .next (if s.flags.z = false then taken else notTaken) ∧
    exec (.beq disp) s = .next (if s.flags.z = true then taken else notTaken) ∧
    exec (.bra disp) s = .next taken

/-! ### Control, stack and system (45_control_stack_system.md) -/

/-- JMP a, JMP (a), JML (R236 to R238): PC, and PBR for JML alone. -/
def Obligations.JumpResults : Prop :=
  ∀ (s : State) (addr : Word) (al : Addr),
    exec (.jmpAbs addr) s = .next { s.ranThrough 3 (s.fetchCalls 3) s.flags.i with regs.pc := addr } ∧
    exec (.jmpInd addr) s = .next
      { s.ranThrough 3
          (s.fetchCalls 3 ++
            [s.readCall 3 (bankAddr 0x00 addr), s.readCall 4 (bankAddr 0x00 (addr + 1))]) s.flags.i with
        regs.pc := joinBytes (s.byteAt 4 (bankAddr 0x00 (addr + 1))) (s.byteAt 3 (bankAddr 0x00 addr)) } ∧
    exec (.jml al) s = .next
      { s.ranThrough 4 (s.fetchCalls 4) s.flags.i with regs.pbr := bankOf al, regs.pc := offsetOf al }

/-- JSR (R239): pushes the address of its own last byte, high byte first. -/
def Obligations.JsrResult : Prop :=
  ∀ (s : State) (addr : Word),
    let bytes := [highByte (s.regs.pc + 2), lowByte (s.regs.pc + 2)]
    let mem := s.mem.pushed s.flags.e s.regs.s 0 bytes
    exec (.jsr addr) s = .next
      { s.ranThrough 3 (s.fetchCalls 3 ++ [.idle] ++ pushCalls s.flags.e s.regs.s 0 bytes) s.flags.i with
        regs.pc := addr
        regs.s := stackDowns s.flags.e s.regs.s 2
        mem := mem } ∧
    (s.mem.wf = true → PushedAt s.mem mem s.flags.e s.regs.s bytes)

/-- JSL (R240): PBR pushed before the bank byte is fetched, then the address of its last byte; the pushes do
not wrap in page 1, and S is put back there at the end while E = 1. -/
def Obligations.JslResult : Prop :=
  ∀ (s : State) (al : Addr),
    let bytes := [s.regs.pbr, highByte (s.regs.pc + 3), lowByte (s.regs.pc + 3)]
    let mem := s.mem.pushed false s.regs.s 0 bytes
    let bank := s.byteIn (s.mem.write (bankAddr 0x00 s.regs.s) s.regs.pbr) 5 (s.codeAddr 3)
    exec (.jsl al) s = .next
      { s.ranThrough 4
          (s.fetchCalls 3 ++ [.write (bankAddr 0x00 s.regs.s) s.regs.pbr, .idle, .read (s.codeAddr 3) bank] ++
            pushCalls false s.regs.s 1 [highByte (s.regs.pc + 3), lowByte (s.regs.pc + 3)]) s.flags.i with
        regs.pbr := bankOf al
        regs.pc := offsetOf al
        regs.s := pageFixed s.flags.e (s.regs.s - 3)
        mem := mem } ∧
    (s.mem.wf = true → PushedAt s.mem mem false s.regs.s bytes)

/-- RTS and RTL (R241, R242): PC is the pulled address plus one; RTL pulls PBR too, without the page-1
wrap. -/
def Obligations.ReturnResults : Prop :=
  ∀ s : State,
    exec .rts s = .next
      { s.ranThrough 1 (s.fetchCalls 1 ++ [.idle, .idle] ++ s.pullCalls s.flags.e 3 2 ++ [.idle]) s.flags.i with
        regs.pc := joinBytes (s.pulledByte s.flags.e 3 1) (s.pulledByte s.flags.e 3 0) + 1
        regs.s := stackUps s.flags.e s.regs.s 2 } ∧
    exec .rtl s = .next
      { s.ranThrough 1 (s.fetchCalls 1 ++ [.idle, .idle] ++ s.pullCalls false 3 3) s.flags.i with
        regs.pc := joinBytes (s.pulledByte false 3 1) (s.pulledByte false 3 0) + 1
        regs.pbr := s.pulledByte false 3 2
        regs.s := pageFixed s.flags.e (s.regs.s + 3) }

/-- RTI (R243): the flag byte, PC and, in native mode, PBR are pulled; no increment; the restored I governs
RTI's own poll. -/
def Obligations.RtiResult : Prop :=
  ∀ s : State,
    let e := s.flags.e
    let count := if e then 3 else 4
    let p := s.pulledByte e 3 0
    exec .rti s = .next
      (State.flagsLoaded
        { s.ranThrough 1 (s.fetchCalls 1 ++ [.idle, .idle] ++ s.pullCalls e 3 count) (p.getLsbD 2) with
          regs.pc := joinBytes (s.pulledByte e 3 2) (s.pulledByte e 3 1)
          regs.pbr := if e then s.regs.pbr else s.pulledByte e 3 3
          regs.s := stackUps e s.regs.s count } p)

/-- BRK (R244): the signature is fetched and ignored, the frame holds the address of BRK + 2 and the flag byte
with `break_flag` 1, and the handler is at the BRK vector. -/
def Obligations.BrkResult : Prop :=
  ∀ (s : State) (sig : Byte),
    let after := s.entered 2 (s.fetchCalls 2) (if s.flags.e then 0x00FFFE else 0x00FFE6) true
    exec (.brk sig) s = .next after ∧
    (s.mem.wf = true → PushedAt s.mem after.mem s.flags.e s.regs.s
      ((if s.flags.e then [] else [s.regs.pbr]) ++
        [highByte (s.regs.pc + 2), lowByte (s.regs.pc + 2), flagsToByte true s.flags]))

/-- NOP, CLC, SEC, CLI, SEI, CLV, CLD, SED (R245 to R252): one flag, written after the poll, or none. -/
def Obligations.FlagInstrResults : Prop :=
  ImpliedBy .nop (fun t => t) ∧
  ImpliedBy .clc (fun t => { t with flags.c := false }) ∧
  ImpliedBy .sec (fun t => { t with flags.c := true }) ∧
  ImpliedBy .cli (fun t => { t with flags.i := false }) ∧
  ImpliedBy .sei (fun t => { t with flags.i := true }) ∧
  ImpliedBy .clv (fun t => { t with flags.v := false }) ∧
  ImpliedBy .cld (fun t => { t with flags.df := false }) ∧
  ImpliedBy .sed (fun t => { t with flags.df := true })

/-- REP and SEP (R253, R254): the flags under the mask cleared or set, M and XF in native mode only; setting
XF clears the index high bytes. -/
def Obligations.RepSepResults : Prop :=
  ∀ (s : State) (mask : Byte),
    let t := s.ranThrough 2 (s.fetchCalls 2 ++ [.idle]) s.flags.i
    let f := s.flags
    let bit (k : Nat) := mask.getLsbD k
    let cleared : Flags :=
      { n := f.n && !bit 7, v := f.v && !bit 6, m := if f.e then f.m else f.m && !bit 5,
        xf := if f.e then f.xf else f.xf && !bit 4, df := f.df && !bit 3, i := f.i && !bit 2,
        z := f.z && !bit 1, c := f.c && !bit 0, e := f.e }
    let put : Flags :=
      { n := f.n || bit 7, v := f.v || bit 6, m := if f.e then f.m else f.m || bit 5,
        xf := if f.e then f.xf else f.xf || bit 4, df := f.df || bit 3, i := f.i || bit 2,
        z := f.z || bit 1, c := f.c || bit 0, e := f.e }
    exec (.rep mask) s = .next { t with
      flags := cleared, regs.x := indexFit cleared.xf s.regs.x, regs.y := indexFit cleared.xf s.regs.y } ∧
    exec (.sep mask) s = .next { t with
      flags := put, regs.x := indexFit put.xf s.regs.x, regs.y := indexFit put.xf s.regs.y }

/-- XCE (R255): C and E exchanged; entering emulation mode forces M and XF, the index high bytes and the stack
page. -/
def Obligations.XceResult : Prop :=
  ImpliedBy .xce fun t =>
    let c := t.flags.c
    { t with
      flags := { t.flags with c := t.flags.e, e := c, m := t.flags.m || c, xf := t.flags.xf || c }
      regs.x := indexFit c t.regs.x
      regs.y := indexFit c t.regs.y
      regs.s := pageFixed c t.regs.s }

/-- PHA, PHX, PHY, PHP, PHB, PHK (R256 to R261). -/
def Obligations.PushResults : Prop :=
  PushesBy .pha State.widthA State.getA ∧
  PushesBy .phx State.widthX (fun s => s.widthX.trunc s.regs.x) ∧
  PushesBy .phy State.widthX (fun s => s.widthX.trunc s.regs.y) ∧
  PushesBy .php (fun _ => .w8) (fun s => zeroExt (flagsToByte true s.flags)) ∧
  PushesBy .phb (fun _ => .w8) (fun s => zeroExt s.regs.dbr) ∧
  PushesBy .phk (fun _ => .w8) (fun s => zeroExt s.regs.pbr)

/-- PHD (R262): 16 bits, without the page-1 wrap; S is put back in page 1 at the end while E = 1. -/
def Obligations.PhdResult : Prop :=
  ∀ s : State,
    let bytes := [highByte s.regs.d, lowByte s.regs.d]
    let mem := s.mem.pushed false s.regs.s 0 bytes
    exec .phd s = .next
      { s.ranThrough 1 (s.fetchCalls 1 ++ [.idle] ++ pushCalls false s.regs.s 0 bytes) s.flags.i with
        regs.s := pageFixed s.flags.e (s.regs.s - 2)
        mem := mem } ∧
    (s.mem.wf = true → PushedAt s.mem mem false s.regs.s bytes)

/-- PLA, PLX, PLY, PLP (R263 to R266). -/
def Obligations.PullResults : Prop :=
  PullsBy .pla State.widthA (fun w v t => t.accResult w v) ∧
  PullsBy .plx State.widthX (fun w v t => t.xResult w v) ∧
  PullsBy .ply State.widthX (fun w v t => t.yResult w v) ∧
  PullsBy .plp (fun _ => .w8) (fun _ v t => t.flagsLoaded (lowByte v))

/-- PLB and PLD (R267, R268): without the page-1 wrap; S is put back in page 1 at the end while E = 1. -/
def Obligations.PullBankDirectResults : Prop :=
  ∀ s : State,
    let b := s.pulledByte false 3 0
    let d := joinBytes (s.pulledByte false 3 1) b
    exec .plb s = .next
      { s.ranThrough 1 (s.fetchCalls 1 ++ [.idle, .idle] ++ s.pullCalls false 3 1) s.flags.i with
        regs.dbr := b
        regs.s := pageFixed s.flags.e (s.regs.s + 1)
        flags := s.flags.withNZ .w8 (zeroExt b) } ∧
    exec .pld s = .next
      { s.ranThrough 1 (s.fetchCalls 1 ++ [.idle, .idle] ++ s.pullCalls false 3 2) s.flags.i with
        regs.d := d
        regs.s := pageFixed s.flags.e (s.regs.s + 2)
        flags := s.flags.withNZ .w16 d }

/-- MVN and MVP (R269, R270): one byte moved per step, the indices stepped at width wX, DBR the destination
bank, A one less in all 16 bits, and PC back at the opcode unless A was 0. -/
def Obligations.BlockMoveResults : Prop :=
  ∀ (s : State) (dst src : Byte),
    let source := bankAddr src s.regs.x
    let target := bankAddr dst s.regs.y
    let v := s.byteAt 3 source
    let moved (delta : Nat) : State :=
      { s.ranThrough 3
          (s.fetchCalls 3 ++ [.read source v, .write target v, .idle, .idle]) s.flags.i with
        regs :=
          { s.regs with
            a := s.regs.a - 1
            x := s.widthX.wrap (s.regs.x.toNat + delta)
            y := s.widthX.wrap (s.regs.y.toNat + delta)
            pc := if s.regs.a = 0 then s.regs.pc + 3 else s.regs.pc
            dbr := dst }
        mem := s.mem.write target v }
    exec (.mvn dst src) s = .next (moved 1) ∧ exec (.mvp dst src) s = .next (moved 65535) ∧
    (s.mem.wf = true → (moved 1).mem.read target = v ∧ (moved 65535).mem.read target = v ∧
      ∀ a, a ≠ target → (moved 1).mem.read a = s.mem.read a ∧ (moved 65535).mem.read a = s.mem.read a)

/-! ### Rules about the whole machine -/

/-- Every instruction, in every state, completes: it makes exactly the bus calls of 70_reset_and_hazards.md
R338, the environment acts once in each, the poll stands before the last one (60_exceptions.md R299), and no
fault is raised. -/
def Obligations.EveryInstructionCompletes : Prop :=
  ∀ (i : Instr) (s : State), ∃ t : State,
    exec i s = .next t ∧
    t.log.length = s.log.length + busCalls s i ∧
    t.env = s.envAt (busCalls s i) ∧
    t.line = s.lineAt (busCalls s i) ∧
    t.ilatch = pollResult (s.lineAt (busCalls s i - 1)) (polledI i s t) ∧
    t.fault = s.fault

/-- PBR is written only by JML, JSL, RTL, RTI in native mode and BRK, which sets it to 0 (R28). -/
def Obligations.ProgramBankWriters : Prop :=
  ∀ (i : Instr) (s t : State), exec i s = .next t → t.regs.pbr ≠ s.regs.pbr →
    writesPBR i = true ∧ (i = .rti → s.flags.e = false) ∧ ((∃ b, i = .brk b) → t.regs.pbr = 0x00)

/-- S, D and DBR are written only by the instructions that R24 and R25 list. -/
def Obligations.StackDirectBankWriters : Prop :=
  ∀ (i : Instr) (s t : State), exec i s = .next t →
    (t.regs.s ≠ s.regs.s → writesS i = true) ∧
    (t.regs.d ≠ s.regs.d → writesD i = true) ∧
    (t.regs.dbr ≠ s.regs.dbr → writesDBR i = true)

/-- V, DF, I, M, XF and E are written only by the instructions of the table of R31; M and XF change in native
mode only, or on the way into emulation mode. -/
def Obligations.FlagWriters : Prop :=
  ∀ (i : Instr) (s t : State), exec i s = .next t →
    (t.flags.v ≠ s.flags.v → writesV i = true) ∧
    (t.flags.df ≠ s.flags.df → writesDF i = true) ∧
    (t.flags.i ≠ s.flags.i → writesI i = true) ∧
    (t.flags.e ≠ s.flags.e → i = .xce) ∧
    ((t.flags.m ≠ s.flags.m ∨ t.flags.xf ≠ s.flags.xf) → writesWidths i = true ∧
      (s.flags.e = false ∨ t.flags.e = true ∧ i = .xce))

/-- The dummy read of the absolute indexed modes (40_addressing_modes.md R115): always one before a store or
a modify; before a plain read exactly where the index crosses a page. -/
def Obligations.IndexedDummyReads : Prop :=
  ∀ (s t : State) (addr : Word),
    let dummy (i : Word) :=
      s.readCall 3 (bankAddr s.regs.dbr (joinBytes (highByte addr) (lowByte (addr + i))))
    (∀ f ∈ [(Instr.staAbsX addr, s.regs.x), (.staAbsY addr, s.regs.y), (.stzAbsX addr, s.regs.x),
        (.aslAbsX addr, s.regs.x), (.lsrAbsX addr, s.regs.x), (.rolAbsX addr, s.regs.x),
        (.rorAbsX addr, s.regs.x), (.incAbsX addr, s.regs.x), (.decAbsX addr, s.regs.x)],
      exec f.1 s = .next t → s.log ++ s.fetchCalls 3 ++ [dummy f.2] <+: t.log) ∧
    (∀ f ∈ [(Instr.ldaAbsX addr, s.regs.x, s.flags.m), (.ldaAbsY addr, s.regs.y, s.flags.m),
        (.oraAbsX addr, s.regs.x, s.flags.m), (.oraAbsY addr, s.regs.y, s.flags.m),
        (.andAbsX addr, s.regs.x, s.flags.m), (.andAbsY addr, s.regs.y, s.flags.m),
        (.eorAbsX addr, s.regs.x, s.flags.m), (.eorAbsY addr, s.regs.y, s.flags.m),
        (.adcAbsX addr, s.regs.x, s.flags.m), (.adcAbsY addr, s.regs.y, s.flags.m),
        (.sbcAbsX addr, s.regs.x, s.flags.m), (.sbcAbsY addr, s.regs.y, s.flags.m),
        (.cmpAbsX addr, s.regs.x, s.flags.m), (.cmpAbsY addr, s.regs.y, s.flags.m),
        (.bitAbsX addr, s.regs.x, s.flags.m), (.ldxAbsY addr, s.regs.y, s.flags.xf),
        (.ldyAbsX addr, s.regs.x, s.flags.xf)],
      exec f.1 s = .next t → ∃ operand : List BusCall,
        operand.length = (if f.2.2 then 1 else 2) ∧
        t.log = s.log ++ s.fetchCalls 3 ++
          (if (addr.toNat + f.2.1.toNat) / 256 = addr.toNat / 256 then [] else [dummy f.2.1]) ++ operand)

/-- A subroutine returns to the instruction after the call: RTS after JSR, and RTL after JSL, over the memory
and the S that the call left, with a Bus that answers from its store. In emulation mode S is in page 1, and
the three bytes of a JSL must not leave it. -/
def Obligations.CallsReturn : Prop :=
  ∀ s t u : State, s.mem.wf = true → u.Quiet → u.mem = t.mem → u.regs.s = t.regs.s →
    u.flags.e = s.flags.e → (s.flags.e = true → highByte s.regs.s = 0x01) →
    (∀ addr, exec (.jsr addr) s = .next t → ∃ r : State, exec .rts u = .next r ∧
      r.regs.pc = s.regs.pc + 3 ∧ r.regs.s = s.regs.s ∧ r.regs.pbr = u.regs.pbr) ∧
    (∀ al, exec (.jsl al) s = .next t → (s.flags.e = true → 3 ≤ (lowByte s.regs.s).toNat) →
      ∃ r : State, exec .rtl u = .next r ∧
        r.regs.pc = s.regs.pc + 4 ∧ r.regs.pbr = s.regs.pbr ∧ r.regs.s = s.regs.s)

/-- RTI recovers what an accepted NMI or IRQ saved (R306): the abandoned PC, in native mode PBR, the flag
byte's flags, and S, in any state with that memory, S and mode over a Bus that answers from its store. -/
def Obligations.RtiRecovers : Prop :=
  ∀ s t u : State, s.mem.wf = true → s.fault = none → (s.ilatch = some .nmi ∨ s.ilatch = some .irq) →
    step s = .next t → u.Quiet → u.mem = t.mem → u.regs.s = t.regs.s → u.flags.e = s.flags.e →
    (s.flags.e = true → highByte s.regs.s = 0x01) →
    ∃ r : State, exec .rti u = .next r ∧ r.regs.pc = s.regs.pc ∧ r.regs.s = s.regs.s ∧
      r.regs.pbr = (if s.flags.e then u.regs.pbr else s.regs.pbr) ∧
      r.flags = (if s.flags.e then { s.flags with m := u.flags.m, xf := u.flags.xf } else s.flags)
end

