-- ==== Sys2Proof/Laws/Bits.lean ====
section
/-! SUPPORT. The small lemmas of the bit-field helpers. -/

namespace Sys2Proof.Machine

open Sys2Proof

theorem getLsbD_joinBytes (hi lo : Byte) (i : Nat) :
    (joinBytes hi lo).getLsbD i = if i < 8 then lo.getLsbD i else hi.getLsbD (i - 8) := by
  rw [show (joinBytes hi lo).getLsbD i = (hi ++ lo : BitVec (8 + 8)).getLsbD i from rfl,
    BitVec.getLsbD_append]

theorem getLsbD_bankAddr (b : Byte) (v : Word) (i : Nat) :
    (bankAddr b v).getLsbD i = if i < 16 then v.getLsbD i else b.getLsbD (i - 16) := by
  rw [show (bankAddr b v).getLsbD i = (b ++ v : BitVec (8 + 16)).getLsbD i from rfl,
    BitVec.getLsbD_append]

theorem toNat_joinBytes (hi lo : Byte) : (joinBytes hi lo).toNat = hi.toNat * 256 + lo.toNat := by
  rw [show (joinBytes hi lo).toNat = (hi ++ lo : BitVec (8 + 8)).toNat from rfl,
    BitVec.toNat_append, ← Nat.shiftLeft_add_eq_or_of_lt lo.isLt, Nat.shiftLeft_eq]

theorem toNat_bankAddr (b : Byte) (v : Word) : (bankAddr b v).toNat = b.toNat * 65536 + v.toNat := by
  rw [show (bankAddr b v).toNat = (b ++ v : BitVec (8 + 16)).toNat from rfl,
    BitVec.toNat_append, ← Nat.shiftLeft_add_eq_or_of_lt v.isLt, Nat.shiftLeft_eq]

theorem toNat_lowByte (v : Word) : (lowByte v).toNat = v.toNat % 256 := by simp [lowByte]

theorem toNat_highByte (v : Word) : (highByte v).toNat = v.toNat / 256 := by
  have h := v.isLt
  simp [highByte, Nat.shiftRight_eq_div_pow]
  omega

theorem toNat_bankOf (a : Addr) : (bankOf a).toNat = a.toNat / 65536 := by
  have h := a.isLt
  simp [bankOf, Nat.shiftRight_eq_div_pow]
  omega

theorem toNat_offsetOf (a : Addr) : (offsetOf a).toNat = a.toNat % 65536 := by simp [offsetOf]

@[simp] theorem lowByte_joinBytes (hi lo : Byte) : lowByte (joinBytes hi lo) = lo := by
  apply BitVec.eq_of_getLsbD_eq
  intro i hi
  simp [lowByte, getLsbD_joinBytes, hi]

@[simp] theorem highByte_joinBytes (hi lo : Byte) : highByte (joinBytes hi lo) = hi := by
  apply BitVec.eq_of_getLsbD_eq
  intro i hi
  simp [highByte, getLsbD_joinBytes, hi]

@[simp] theorem joinBytes_high_low (v : Word) : joinBytes (highByte v) (lowByte v) = v := by
  apply BitVec.eq_of_toNat_eq
  rw [toNat_joinBytes, toNat_highByte, toNat_lowByte]
  omega

theorem zeroExt_eq_joinBytes (b : Byte) : zeroExt b = joinBytes 0x00 b := by
  apply BitVec.eq_of_toNat_eq
  have h := b.isLt
  rw [toNat_joinBytes]
  simp [zeroExt]
  omega

@[simp] theorem lowByte_zeroExt (b : Byte) : lowByte (zeroExt b) = b := by
  rw [zeroExt_eq_joinBytes]; simp

@[simp] theorem highByte_zeroExt (b : Byte) : highByte (zeroExt b) = 0x00 := by
  rw [zeroExt_eq_joinBytes]; simp

@[simp] theorem trunc_w8 (v : Word) : Width.w8.trunc v = zeroExt (lowByte v) := rfl

@[simp] theorem trunc_w16 (v : Word) : Width.w16.trunc v = v := rfl

@[simp] theorem trunc_trunc (w : Width) (v : Word) : w.trunc (w.trunc v) = w.trunc v := by
  cases w <;> simp

@[simp] theorem bits_w8 : Width.w8.bits = 8 := rfl

@[simp] theorem bits_w16 : Width.w16.bits = 16 := rfl

@[simp] theorem ofFlag_true : Width.ofFlag true = .w8 := rfl

@[simp] theorem ofFlag_false : Width.ofFlag false = .w16 := rfl

theorem lowByte_trunc (w : Width) (v : Word) : lowByte (w.trunc v) = lowByte v := by
  cases w <;> simp

/-- A value at width 8 has a zero high byte. -/
theorem highByte_trunc_w8 (v : Word) : highByte (Width.w8.trunc v) = 0x00 := by simp

@[simp] theorem bankOf_bankAddr (b : Byte) (v : Word) : bankOf (bankAddr b v) = b := by
  apply BitVec.eq_of_getLsbD_eq
  intro i hi
  simp [bankOf, getLsbD_bankAddr, hi]

@[simp] theorem offsetOf_bankAddr (b : Byte) (v : Word) : offsetOf (bankAddr b v) = v := by
  apply BitVec.eq_of_getLsbD_eq
  intro i hi
  simp [offsetOf, getLsbD_bankAddr, hi]

@[simp] theorem bankAddr_bankOf_offsetOf (a : Addr) : bankAddr (bankOf a) (offsetOf a) = a := by
  apply BitVec.eq_of_toNat_eq
  rw [toNat_bankAddr, toNat_bankOf, toNat_offsetOf]
  omega

end Sys2Proof.Machine
end

