-- ==== Sys2Proof/Laws/Core.lean ====
section
/-! SUPPORT. How a piece of a step runs: one equation for each way of building one and for each primitive. -/

namespace Sys2Proof.Machine

open Sys2Proof

@[simp] theorem core_bind {α β : Type} (x : Core α) (f : α → Core β) (s : State) :
    (x >>= f) s = f (x s).1 (x s).2 := rfl

@[simp] theorem core_pure {α : Type} (a : α) (s : State) : (pure a : Core α) s = (a, s) := rfl

@[simp] theorem core_map {α β : Type} (f : α → β) (x : Core α) (s : State) :
    (f <$> x) s = (f (x s).1, (x s).2) := rfl

@[simp] theorem core_query {α : Type} (f : State → α) (s : State) : query f s = (f s, s) := rfl

@[simp] theorem core_update (f : State → State) (s : State) : update f s = ((), f s) := rfl

@[simp] theorem core_choose {α : Type} (c : State → Bool) (x y : Core α) (s : State) :
    choose c x y s = if c s then x s else y s := rfl

@[simp] theorem core_runIf (c : Bool) (x : Core Unit) (s : State) :
    runIf c x s = if c then x s else ((), s) := rfl

@[simp] theorem core_busRead (a : Addr) (s : State) :
    busRead a s = (s.busAnswer a, s.tick (.read a (s.busAnswer a))) := rfl

@[simp] theorem core_dummyRead (a : Addr) (s : State) :
    dummyRead a s = ((), s.tick (.read a (s.busAnswer a))) := rfl

@[simp] theorem core_busWrite (a : Addr) (v : Byte) (s : State) :
    busWrite a v s = ((), { s.tick (.write a v) with mem := s.mem.write a v }) := rfl

@[simp] theorem core_busIdle (s : State) : busIdle s = ((), s.tick .idle) := rfl

@[simp] theorem core_poll (s : State) :
    poll s = ((), { s with ilatch := pollResult s.line s.flags.i }) := rfl

@[simp] theorem core_fetch (s : State) :
    fetch s = (s.busAnswer s.fetchAddr,
      { s.tick (.read s.fetchAddr (s.busAnswer s.fetchAddr)) with regs.pc := s.regs.pc + 1 }) := rfl

@[simp] theorem core_fetchOperand_zero (s : State) : fetchOperand 0 s = ((), s) := rfl

@[simp] theorem core_fetchOperand_succ (n : Nat) (s : State) :
    fetchOperand (n + 1) s = fetchOperand n (fetch s).2 := rfl

@[simp] theorem core_fetchOperand_one (s : State) : fetchOperand 1 s = ((), (fetch s).2) := rfl

@[simp] theorem core_push (v : Byte) (s : State) :
    push v s = ((), { s.tick (.write s.stackAddr v) with
      mem := s.mem.write s.stackAddr v }.setS (s.regs.s - 1)) := rfl

@[simp] theorem core_pull (s : State) :
    pull s = busRead (s.setS (s.regs.s + 1)).stackAddr (s.setS (s.regs.s + 1)) := rfl

@[simp] theorem core_pushN (v : Byte) (s : State) :
    pushN v s = ((), { s.tick (.write s.stackAddr v) with
      mem := s.mem.write s.stackAddr v, regs.s := s.regs.s - 1 }) := rfl

@[simp] theorem core_pullN (s : State) :
    pullN s = busRead { s with regs.s := s.regs.s + 1 }.stackAddr { s with regs.s := s.regs.s + 1 } := rfl

@[simp] theorem core_fixS (s : State) : fixS s = ((), s.setS s.regs.s) := rfl

@[simp] theorem complete_next (c : Core Unit) (s t : State) : complete c s = .next t ↔ (c s).2 = t := by
  simp [complete]

end Sys2Proof.Machine
end

