-- ==== Sys2Proof/Laws/Env.lean ====
section
/-! SUPPORT. The environment's script as it is used up: what the Bus answers and what the lines are after
`k` bus calls, in terms of the state `s` at the start. A state reached by `k` bus calls is written out as a
literal whose `line` is `s.lineAt k` and whose `env` is `s.envAt k`; then `tick_seen` and `busAnswer_seen`
run the next call. Give `tick_first s` and `busAnswer_first s` to simp for the very first call. -/

namespace Sys2Proof.Machine

open Sys2Proof

theorem head?_envAt (s : State) (k : Nat) : (s.envAt k).head? = s.env[k]? := by
  simp [State.envAt, List.head?_drop]

theorem tail_envAt (s : State) (k : Nat) : (s.envAt k).tail = s.envAt (k + 1) := by
  simp [State.envAt, List.tail_drop]

/-- One bus call at the start. -/
theorem tick_first (s : State) (c : BusCall) :
    s.tick c =
      { regs := s.regs, flags := s.flags, line := s.lineAt 1, ilatch := s.ilatch, fault := s.fault,
        mem := s.mem, env := s.envAt 1, log := s.log ++ [c] } := by
  simp [State.tick, State.lineAt, State.envAt, List.head?_eq_getElem?]

/-- What the Bus answers at the start. -/
theorem busAnswer_first (s : State) (a : Addr) : s.busAnswer a = s.byteAt 0 a := by
  simp [State.busAnswer, State.byteAt, State.byteIn, List.head?_eq_getElem?]

/-- One more bus call, after `k` of them. -/
@[simp] theorem tick_seen (s : State) (r : Regs) (f : Flags) (k : Nat) (il : Option Interrupt)
    (flt : Option FaultRecord) (m : Memory) (log : List BusCall) (c : BusCall) :
    State.tick c
        { regs := r, flags := f, line := s.lineAt k, ilatch := il, fault := flt, mem := m,
          env := s.envAt k, log := log } =
      { regs := r, flags := f, line := s.lineAt (k + 1), ilatch := il, fault := flt, mem := m,
        env := s.envAt (k + 1), log := log ++ [c] } := by
  simp [State.tick, head?_envAt, tail_envAt, State.lineAt]

/-- What the Bus answers after `k` bus calls. -/
@[simp] theorem busAnswer_seen (s : State) (r : Regs) (f : Flags) (k : Nat) (l : InterruptLine)
    (il : Option Interrupt) (flt : Option FaultRecord) (m : Memory) (log : List BusCall) (a : Addr) :
    State.busAnswer
        { regs := r, flags := f, line := l, ilatch := il, fault := flt, mem := m, env := s.envAt k,
          log := log } a = s.byteIn m k a := by
  simp [State.busAnswer, State.byteIn, head?_envAt]

/-- The first bus call from a state of which only other fields were changed. -/
@[simp] theorem tick_seen_zero (s : State) (r : Regs) (f : Flags) (il : Option Interrupt)
    (flt : Option FaultRecord) (m : Memory) (log : List BusCall) (c : BusCall) :
    State.tick c
        { regs := r, flags := f, line := s.line, ilatch := il, fault := flt, mem := m,
          env := s.env, log := log } =
      { regs := r, flags := f, line := s.lineAt 1, ilatch := il, fault := flt, mem := m,
        env := s.envAt 1, log := log ++ [c] } := by
  simp [State.tick, State.lineAt, State.envAt, List.head?_eq_getElem?]

@[simp] theorem busAnswer_seen_zero (s : State) (r : Regs) (f : Flags) (l : InterruptLine)
    (il : Option Interrupt) (flt : Option FaultRecord) (m : Memory) (log : List BusCall) (a : Addr) :
    State.busAnswer
        { regs := r, flags := f, line := l, ilatch := il, fault := flt, mem := m, env := s.env,
          log := log } a = s.byteIn m 0 a := by
  simp [State.busAnswer, State.byteIn, List.head?_eq_getElem?]

@[simp] theorem byteIn_mem (s : State) (k : Nat) (a : Addr) : s.byteIn s.mem k a = s.byteAt k a := rfl

/-- A script that is used up leaves the lines alone. -/
theorem lineAt_quiet (s : State) (h : s.env = []) (k : Nat) : s.lineAt k = s.line := by
  induction k with
  | zero => rfl
  | succ k ih => simp [State.lineAt, ih, h, lineOf]

/-- With no script the Bus answers from the store. -/
theorem byteIn_quiet (s : State) (h : s.env = []) (m : Memory) (k : Nat) (a : Addr) :
    s.byteIn m k a = m.read a := by
  simp [State.byteIn, h, answerOf]

theorem byteAt_quiet (s : State) (h : s.env = []) (k : Nat) (a : Addr) : s.byteAt k a = s.mem.read a :=
  byteIn_quiet s h s.mem k a

end Sys2Proof.Machine
end

