-- ==== Sys2Proof/Laws/Operands.lean ====
section
/-! SUPPORT. What the resolver and the operand access sequences do: each RUN is the LIST of bus calls that
Machine/Trace.lean computes from the state at the start. -/

namespace Sys2Proof.Machine

open Sys2Proof

/-- The opcode fetch. -/
theorem fetch_first (s : State) : (fetch s).2 = s.afterCalls 1 (s.fetchCalls 1) := by
  simp [tick_first s, busAnswer_first s, State.afterCalls, State.fetchCalls, State.readCall,
    State.codeAddr, State.fetchAddr]

@[simp] theorem length_fetchCalls (s : State) (n : Nat) : (s.fetchCalls n).length = n := by
  simp [State.fetchCalls]

/-- A direct address depends on D and E alone. -/
@[simp] theorem directAddr_seen (s : State) (a x y sp pc : Word) (pbr dbr : Byte) (l : InterruptLine)
    (il : Option Interrupt) (flt : Option FaultRecord) (m : Memory) (env : List BusEvent)
    (log : List BusCall) (o n : Word) :
    State.directAddr
        { regs := { a := a, x := x, y := y, s := sp, d := s.regs.d, pc := pc, pbr := pbr, dbr := dbr }
          flags := s.flags, line := l, ilatch := il, fault := flt, mem := m, env := env, log := log } o n =
      s.directAddr o n := rfl

/-- The resolver after the opcode fetch: its effective address, and the calls made so far; nothing else
changes (40_addressing_modes.md R110 to R119). -/
theorem resolve_run (mode : Mode) (w : Bool) (s : State) :
    resolve mode w (s.afterCalls 1 (s.fetchCalls 1)) =
      (s.effAddr mode, s.afterCalls (1 + mode.operandBytes) (s.resolverCalls mode w)) := by
  cases mode <;> by_cases hd : lowByte s.regs.d = 0#8 <;>
  simp [hd, resolve, directIdle, State.afterCalls, State.resolverCalls, State.directCalls,
    State.directIdles, State.effAddr, State.fetchCalls, List.range_succ, State.readCall, State.codeAddr,
    State.fetchAddr, Mode.operandBytes, State.directEff, readPointer,
    State.pointerCalls, State.pointerAt, resolveIndexed, State.carryCalls, State.indexedAddr,
    State.uncarriedAddr, State.stackRelEff, BitVec.add_assoc] <;> (try split) <;> (try simp)

/-- The read sequence (40_addressing_modes.md R123) after the calls `cs`. -/
theorem readOperand_run (w : Width) (ea : EffAddr) (s : State) (len : Nat) (cs : List BusCall) :
    readOperand w ea (s.afterCalls len cs) =
      (s.operandAt cs.length ea w,
        s.ranThrough len (cs ++ s.operandReads cs.length ea w) s.flags.i) := by
  cases w <;>
  simp [readOperand, State.afterCalls, State.ranThrough, State.operandAt, State.operandReads,
    State.readCall]

/-- The operand of a modify instruction, after the calls `cs`. -/
theorem readForModify_run (w : Width) (ea : EffAddr) (s : State) (len : Nat) (cs : List BusCall) :
    readForModify w ea (s.afterCalls len cs) =
      (s.operandAt cs.length ea w, s.afterCalls len (cs ++ s.operandReads cs.length ea w)) := by
  cases w <;>
  simp [readForModify, State.afterCalls, State.operandAt, State.operandReads, State.readCall]

/-- The write sequence (40_addressing_modes.md R124) after the calls `cs`. -/
theorem writeOperand_run (w : Width) (ea : EffAddr) (v : Word) (s : State) (len : Nat)
    (cs : List BusCall) :
    (writeOperand w ea v (s.afterCalls len cs)).2 =
      { s.ranThrough len (cs ++ storeCalls ea w v) s.flags.i with mem := s.mem.store ea w v } := by
  cases w <;>
  simp [writeOperand, State.afterCalls, State.ranThrough, storeCalls, Memory.store]

/-- A width that the calls of an instruction do not change: `wA` and `wX` (10_state.md R37). -/
theorem widthA_afterCalls (s : State) (len : Nat) (cs : List BusCall) :
    (s.afterCalls len cs).widthA = s.widthA := rfl

theorem widthX_afterCalls (s : State) (len : Nat) (cs : List BusCall) :
    (s.afterCalls len cs).widthX = s.widthX := rfl

/-- A read instruction applies its operator to the operand, in the state that follows all its bus calls
(41_binary_read.md R140). -/
theorem readInstr_run (w : State → Width) (mode : Mode) (op : ReadOp) (s : State)
    (hw : ∀ len cs, w (s.afterCalls len cs) = w s) :
    (readInstr w mode op s).2 = op (w s) (s.readValue mode (w s)) (s.afterRead mode (w s)) := by
  simp only [readInstr, core_bind, fetch_first, resolve_run, core_query, hw, readOperand_run,
    core_update]
  rfl

/-- A read instruction with an immediate operand (40_addressing_modes.md R111). -/
theorem immediateInstr_run (w : State → Width) (v : Imm) (op : ReadOp) (s : State)
    (hw : ∀ len cs, w (s.afterCalls len cs) = w s) :
    (immediateInstr w v op s).2 = op (w s) ((w s).trunc (immValue v)) (s.afterImmediate (w s)) := by
  simp only [immediateInstr, core_bind, fetch_first, core_query, hw, core_update]
  cases w s <;>
  simp [readImmediate, State.afterCalls, State.afterImmediate, State.ranThrough, Width.immBytes,
    State.fetchCalls, List.range_succ, State.readCall, State.codeAddr, State.fetchAddr,
    BitVec.add_assoc]

/-- A store (42_move_load.md R160): the calls of the resolver with write intent, then the writes. -/
theorem storeInstr_run (w : State → Width) (mode : Mode) (value : State → Word) (s : State)
    (hw : ∀ len cs, w (s.afterCalls len cs) = w s)
    (hv : ∀ len cs, value (s.afterCalls len cs) = value s) :
    (storeInstr w mode value s).2 =
      { s.ranThrough (1 + mode.operandBytes)
          (s.resolverCalls mode true ++ storeCalls (s.effAddr mode) (w s) (value s)) s.flags.i with
        mem := s.mem.store (s.effAddr mode) (w s) (value s) } := by
  simp only [storeInstr, core_bind, fetch_first, resolve_run, core_query, hw, hv, writeOperand_run]

/-- A modify instruction on memory (40_addressing_modes.md R125), for an operator that computes `r` and the
flags `f` from A and the flags, and leaves I and everything else. -/
theorem modifyInstr_run (mode : Mode) (op : ModifyOp) (s : State) (r : Word) (f : Flags)
    (hi : f.i = s.flags.i)
    (hop : ∀ t : State, t.regs.a = s.regs.a → t.flags = s.flags →
      op s.widthA (s.modifyValue mode s.widthA) t = (r, { t with flags := f })) :
    (modifyInstr mode op s).2 =
      { s.ranThrough (1 + mode.operandBytes)
          (s.resolverCalls mode true ++
            s.operandReads (s.resolverCalls mode true).length (s.effAddr mode) s.widthA ++
            modifyCalls s.flags.e (s.effAddr mode) s.widthA (s.modifyValue mode s.widthA) r)
          s.flags.i with
        flags := f
        mem := s.mem.modify s.flags.e (s.effAddr mode) s.widthA (s.modifyValue mode s.widthA) r } := by
  simp only [modifyInstr, core_bind, fetch_first, resolve_run, core_query, widthA_afterCalls,
    readForModify_run]
  rw [show s.operandAt (s.resolverCalls mode true).length (s.effAddr mode) s.widthA =
    s.modifyValue mode s.widthA from rfl]
  cases he : s.flags.e <;> cases hw : s.widthA <;> rw [hw] at hop <;>
  simp [modifyDummy, State.afterCalls, he, hop, writeModified, writeModifiedHigh, State.ranThrough,
    modifyCalls, Memory.modify, State.operandReads, hi]

/-- An implied instruction (40_addressing_modes.md R120). -/
theorem impliedInstr_run (effect : State → State) (s : State) :
    (impliedInstr effect s).2 = effect s.afterImplied := by
  simp [impliedInstr, tick_first s, busAnswer_first s, State.afterImplied, State.ranThrough,
    State.afterCalls, State.fetchCalls, State.readCall, State.codeAddr, State.fetchAddr]

end Sys2Proof.Machine
end

