-- ==== Sys2Proof/Laws/Memory.lean ====
section
/-! SUPPORT. The store: every write keeps the canonical form, and a read after a write. -/

namespace Sys2Proof.Machine

open Sys2Proof

theorem wfFrom_cons {lo k : Nat} {v : Byte} {rest : Memory} :
    Memory.wfFrom lo ((k, v) :: rest) = true ↔
      lo ≤ k ∧ k < 2 ^ 24 ∧ v ≠ missingByte ∧ Memory.wfFrom (k + 1) rest = true := by
  simp [Memory.wfFrom, and_assoc]

/-- A canonical list whose keys lie at `lo` or above also has them at any lower bound. -/
theorem wfFrom_mono {lo lo' : Nat} (h : lo' ≤ lo) {mem : Memory} (hw : Memory.wfFrom lo mem = true) :
    Memory.wfFrom lo' mem = true := by
  cases mem with
  | nil => rfl
  | cons c rest =>
    obtain ⟨k, v⟩ := c
    rw [wfFrom_cons] at hw ⊢
    exact ⟨h.trans hw.1, hw.2⟩

/-- A key below every listed one reads as missing. -/
theorem readKey_below {lo k : Nat} (hk : k < lo) {mem : Memory} (hw : Memory.wfFrom lo mem = true) :
    Memory.readKey k mem = missingByte := by
  induction mem generalizing lo with
  | nil => rfl
  | cons c rest ih =>
    obtain ⟨k', v⟩ := c
    rw [wfFrom_cons] at hw
    have hne : ¬ k' = k := by omega
    simp only [Memory.readKey, if_neg hne]
    exact ih (lo := k' + 1) (by omega) hw.2.2.2

theorem wfFrom_writeKey {lo k : Nat} {v : Byte} (hlo : lo ≤ k) (hk : k < 2 ^ 24) {mem : Memory}
    (hw : Memory.wfFrom lo mem = true) : Memory.wfFrom lo (Memory.writeKey k v mem) = true := by
  induction mem generalizing lo with
  | nil =>
    by_cases hv : v = missingByte
    · simp [Memory.writeKey, hv, Memory.wfFrom]
    · simp only [Memory.writeKey, if_neg hv, wfFrom_cons]
      exact ⟨hlo, hk, hv, rfl⟩
  | cons c rest ih =>
    obtain ⟨k', v'⟩ := c
    have hw' := wfFrom_cons.mp hw
    simp only [Memory.writeKey]
    split
    · split
      · exact hw
      · rename_i hlt hv
        exact wfFrom_cons.mpr ⟨hlo, hk, hv, wfFrom_cons.mpr ⟨hlt, hw'.2⟩⟩
    · split
      · rename_i heq
        subst heq
        split
        · exact wfFrom_mono (by omega) hw'.2.2.2
        · rename_i hv
          exact wfFrom_cons.mpr ⟨hlo, hk, hv, hw'.2.2.2⟩
      · exact wfFrom_cons.mpr ⟨hw'.1, hw'.2.1, hw'.2.2.1, ih (by omega) hw'.2.2.2⟩

/-- Reading a key after writing one. -/
theorem readKey_writeKey {lo k j : Nat} {v : Byte} {mem : Memory} (hw : Memory.wfFrom lo mem = true) :
    Memory.readKey j (Memory.writeKey k v mem) = if j = k then v else Memory.readKey j mem := by
  induction mem generalizing lo with
  | nil =>
    by_cases hjk : j = k
    · subst hjk
      by_cases hv : v = missingByte <;> simp [Memory.writeKey, Memory.readKey, hv]
    · have hkj : ¬ k = j := fun h => hjk h.symm
      by_cases hv : v = missingByte <;> simp [Memory.writeKey, Memory.readKey, hv, hjk, hkj]
  | cons c rest ih =>
    obtain ⟨k', v'⟩ := c
    have hw' := wfFrom_cons.mp hw
    have below : ∀ i, i < k' + 1 → Memory.readKey i rest = missingByte :=
      fun i hi => readKey_below hi hw'.2.2.2
    by_cases hjk : j = k
    · subst hjk
      simp only [Memory.writeKey, if_pos]
      split
      · split <;> rename_i hlt hv
        · simp [Memory.readKey, below j (by omega), hv, show ¬ k' = j by omega]
        · simp [Memory.readKey]
      · split
        · rename_i heq
          subst heq
          split <;> rename_i hv
          · simp [below j (by omega), hv]
          · simp [Memory.readKey]
        · rename_i h1 h2
          simp [Memory.readKey, ih hw'.2.2.2, Ne.symm h2]
    · have hkj : ¬ k = j := fun h => hjk h.symm
      simp only [Memory.writeKey, if_neg hjk]
      split
      · split <;> simp [Memory.readKey, hkj]
      · split
        · rename_i heq
          subst heq
          split <;> simp [Memory.readKey, hkj]
        · simp [Memory.readKey, ih hw'.2.2.2, hjk]

/-- Every write keeps the canonical form. -/
theorem wf_write (mem : Memory) (a : Addr) (v : Byte) (hw : mem.wf = true) : (mem.write a v).wf = true :=
  wfFrom_writeKey (Nat.zero_le _) a.isLt hw

/-- The byte at an address after a write. -/
theorem read_write (mem : Memory) (hw : mem.wf = true) (a b : Addr) (v : Byte) :
    (mem.write a v).read b = if b = a then v else mem.read b := by
  rw [Memory.read, Memory.write, readKey_writeKey hw]
  simp [Memory.read, BitVec.toNat_inj]

theorem read_write_same (mem : Memory) (hw : mem.wf = true) (a : Addr) (v : Byte) :
    (mem.write a v).read a = v := by simp [read_write mem hw]

theorem read_write_other (mem : Memory) (hw : mem.wf = true) {a b : Addr} (h : b ≠ a) (v : Byte) :
    (mem.write a v).read b = mem.read b := by simp [read_write mem hw, h]

theorem wf_nil : Memory.wf [] = true := rfl

/-- A store keeps the canonical form (40_addressing_modes.md R124). -/
theorem wf_store (mem : Memory) (ea : EffAddr) (w : Width) (v : Word) (hw : mem.wf = true) :
    (mem.store ea w v).wf = true := by
  cases w
  · exact wf_write _ _ _ hw
  · exact wf_write _ _ _ (wf_write _ _ _ hw)

/-- The write-back of a modify instruction keeps the canonical form (40_addressing_modes.md R125). -/
theorem wf_modify (mem : Memory) (e : Bool) (ea : EffAddr) (w : Width) (v r : Word) (hw : mem.wf = true) :
    (mem.modify e ea w v r).wf = true := by
  have h : (if e then mem.write ea.lo (lowByte v) else mem).wf = true := by
    cases e
    · exact hw
    · exact wf_write _ _ _ hw
  cases w
  · exact wf_write _ _ _ h
  · exact wf_write _ _ _ (wf_write _ _ _ h)

end Sys2Proof.Machine
end

