-- ==== Sys2Proof/Laws/State.lean ====
section
/-! SUPPORT. What each update of the state leaves in each field, so that no proof unfolds a record update. -/

namespace Sys2Proof.Machine

open Sys2Proof

/-! ### `setNZ` -/

@[simp] theorem State.setNZ_regs (s : State) (w : Width) (v : Word) :
    (s.setNZ w v).regs = s.regs := rfl

@[simp] theorem State.setNZ_flags (s : State) (w : Width) (v : Word) :
    (s.setNZ w v).flags = { s.flags with n := w.sign v, z := w.trunc v == 0 } := rfl

@[simp] theorem State.setNZ_line (s : State) (w : Width) (v : Word) :
    (s.setNZ w v).line = s.line := rfl

@[simp] theorem State.setNZ_ilatch (s : State) (w : Width) (v : Word) :
    (s.setNZ w v).ilatch = s.ilatch := rfl

@[simp] theorem State.setNZ_fault (s : State) (w : Width) (v : Word) :
    (s.setNZ w v).fault = s.fault := rfl

@[simp] theorem State.setNZ_mem (s : State) (w : Width) (v : Word) :
    (s.setNZ w v).mem = s.mem := rfl

@[simp] theorem State.setNZ_env (s : State) (w : Width) (v : Word) :
    (s.setNZ w v).env = s.env := rfl

@[simp] theorem State.setNZ_log (s : State) (w : Width) (v : Word) :
    (s.setNZ w v).log = s.log := rfl

/-! ### `setZ` -/

@[simp] theorem State.setZ_regs (s : State) (v : Word) :
    (s.setZ v).regs = s.regs := rfl

@[simp] theorem State.setZ_flags (s : State) (v : Word) :
    (s.setZ v).flags = { s.flags with z := v == 0 } := rfl

@[simp] theorem State.setZ_line (s : State) (v : Word) :
    (s.setZ v).line = s.line := rfl

@[simp] theorem State.setZ_ilatch (s : State) (v : Word) :
    (s.setZ v).ilatch = s.ilatch := rfl

@[simp] theorem State.setZ_fault (s : State) (v : Word) :
    (s.setZ v).fault = s.fault := rfl

@[simp] theorem State.setZ_mem (s : State) (v : Word) :
    (s.setZ v).mem = s.mem := rfl

@[simp] theorem State.setZ_env (s : State) (v : Word) :
    (s.setZ v).env = s.env := rfl

@[simp] theorem State.setZ_log (s : State) (v : Word) :
    (s.setZ v).log = s.log := rfl

/-! ### `setC` -/

@[simp] theorem State.setC_regs (s : State) (c : Bool) :
    (s.setC c).regs = s.regs := rfl

@[simp] theorem State.setC_flags (s : State) (c : Bool) :
    (s.setC c).flags = { s.flags with c := c } := rfl

@[simp] theorem State.setC_line (s : State) (c : Bool) :
    (s.setC c).line = s.line := rfl

@[simp] theorem State.setC_ilatch (s : State) (c : Bool) :
    (s.setC c).ilatch = s.ilatch := rfl

@[simp] theorem State.setC_fault (s : State) (c : Bool) :
    (s.setC c).fault = s.fault := rfl

@[simp] theorem State.setC_mem (s : State) (c : Bool) :
    (s.setC c).mem = s.mem := rfl

@[simp] theorem State.setC_env (s : State) (c : Bool) :
    (s.setC c).env = s.env := rfl

@[simp] theorem State.setC_log (s : State) (c : Bool) :
    (s.setC c).log = s.log := rfl

/-! ### `clearIndexHigh` -/

@[simp] theorem State.clearIndexHigh_regs (s : State) :
    (s.clearIndexHigh).regs = { s.regs with x := zeroExt (lowByte s.regs.x), y := zeroExt (lowByte s.regs.y) } := rfl

@[simp] theorem State.clearIndexHigh_flags (s : State) :
    (s.clearIndexHigh).flags = s.flags := rfl

@[simp] theorem State.clearIndexHigh_line (s : State) :
    (s.clearIndexHigh).line = s.line := rfl

@[simp] theorem State.clearIndexHigh_ilatch (s : State) :
    (s.clearIndexHigh).ilatch = s.ilatch := rfl

@[simp] theorem State.clearIndexHigh_fault (s : State) :
    (s.clearIndexHigh).fault = s.fault := rfl

@[simp] theorem State.clearIndexHigh_mem (s : State) :
    (s.clearIndexHigh).mem = s.mem := rfl

@[simp] theorem State.clearIndexHigh_env (s : State) :
    (s.clearIndexHigh).env = s.env := rfl

@[simp] theorem State.clearIndexHigh_log (s : State) :
    (s.clearIndexHigh).log = s.log := rfl

/-! ### `loadFlags` -/

@[simp] theorem State.loadFlags_flags (s : State) (b : Byte) :
    (s.loadFlags b).flags = flagsFromByte b s.flags := by unfold State.loadFlags; split <;> rfl

@[simp] theorem State.loadFlags_line (s : State) (b : Byte) :
    (s.loadFlags b).line = s.line := by unfold State.loadFlags; split <;> rfl

@[simp] theorem State.loadFlags_ilatch (s : State) (b : Byte) :
    (s.loadFlags b).ilatch = s.ilatch := by unfold State.loadFlags; split <;> rfl

@[simp] theorem State.loadFlags_fault (s : State) (b : Byte) :
    (s.loadFlags b).fault = s.fault := by unfold State.loadFlags; split <;> rfl

@[simp] theorem State.loadFlags_mem (s : State) (b : Byte) :
    (s.loadFlags b).mem = s.mem := by unfold State.loadFlags; split <;> rfl

@[simp] theorem State.loadFlags_env (s : State) (b : Byte) :
    (s.loadFlags b).env = s.env := by unfold State.loadFlags; split <;> rfl

@[simp] theorem State.loadFlags_log (s : State) (b : Byte) :
    (s.loadFlags b).log = s.log := by unfold State.loadFlags; split <;> rfl

/-! ### `setA` -/

@[simp] theorem State.setA_flags (s : State) (v : Word) :
    (s.setA v).flags = s.flags := by unfold State.setA; split <;> rfl

@[simp] theorem State.setA_line (s : State) (v : Word) :
    (s.setA v).line = s.line := by unfold State.setA; split <;> rfl

@[simp] theorem State.setA_ilatch (s : State) (v : Word) :
    (s.setA v).ilatch = s.ilatch := by unfold State.setA; split <;> rfl

@[simp] theorem State.setA_fault (s : State) (v : Word) :
    (s.setA v).fault = s.fault := by unfold State.setA; split <;> rfl

@[simp] theorem State.setA_mem (s : State) (v : Word) :
    (s.setA v).mem = s.mem := by unfold State.setA; split <;> rfl

@[simp] theorem State.setA_env (s : State) (v : Word) :
    (s.setA v).env = s.env := by unfold State.setA; split <;> rfl

@[simp] theorem State.setA_log (s : State) (v : Word) :
    (s.setA v).log = s.log := by unfold State.setA; split <;> rfl

/-! ### `setX` -/

@[simp] theorem State.setX_regs (s : State) (v : Word) :
    (s.setX v).regs = { s.regs with x := s.widthX.trunc v } := rfl

@[simp] theorem State.setX_flags (s : State) (v : Word) :
    (s.setX v).flags = s.flags := rfl

@[simp] theorem State.setX_line (s : State) (v : Word) :
    (s.setX v).line = s.line := rfl

@[simp] theorem State.setX_ilatch (s : State) (v : Word) :
    (s.setX v).ilatch = s.ilatch := rfl

@[simp] theorem State.setX_fault (s : State) (v : Word) :
    (s.setX v).fault = s.fault := rfl

@[simp] theorem State.setX_mem (s : State) (v : Word) :
    (s.setX v).mem = s.mem := rfl

@[simp] theorem State.setX_env (s : State) (v : Word) :
    (s.setX v).env = s.env := rfl

@[simp] theorem State.setX_log (s : State) (v : Word) :
    (s.setX v).log = s.log := rfl

/-! ### `setY` -/

@[simp] theorem State.setY_regs (s : State) (v : Word) :
    (s.setY v).regs = { s.regs with y := s.widthX.trunc v } := rfl

@[simp] theorem State.setY_flags (s : State) (v : Word) :
    (s.setY v).flags = s.flags := rfl

@[simp] theorem State.setY_line (s : State) (v : Word) :
    (s.setY v).line = s.line := rfl

@[simp] theorem State.setY_ilatch (s : State) (v : Word) :
    (s.setY v).ilatch = s.ilatch := rfl

@[simp] theorem State.setY_fault (s : State) (v : Word) :
    (s.setY v).fault = s.fault := rfl

@[simp] theorem State.setY_mem (s : State) (v : Word) :
    (s.setY v).mem = s.mem := rfl

@[simp] theorem State.setY_env (s : State) (v : Word) :
    (s.setY v).env = s.env := rfl

@[simp] theorem State.setY_log (s : State) (v : Word) :
    (s.setY v).log = s.log := rfl

/-! ### `setS` -/

@[simp] theorem State.setS_regs (s : State) (v : Word) :
    (s.setS v).regs = { s.regs with s := if s.flags.e then joinBytes 0x01 (lowByte v) else v } := rfl

@[simp] theorem State.setS_flags (s : State) (v : Word) :
    (s.setS v).flags = s.flags := rfl

@[simp] theorem State.setS_line (s : State) (v : Word) :
    (s.setS v).line = s.line := rfl

@[simp] theorem State.setS_ilatch (s : State) (v : Word) :
    (s.setS v).ilatch = s.ilatch := rfl

@[simp] theorem State.setS_fault (s : State) (v : Word) :
    (s.setS v).fault = s.fault := rfl

@[simp] theorem State.setS_mem (s : State) (v : Word) :
    (s.setS v).mem = s.mem := rfl

@[simp] theorem State.setS_env (s : State) (v : Word) :
    (s.setS v).env = s.env := rfl

@[simp] theorem State.setS_log (s : State) (v : Word) :
    (s.setS v).log = s.log := rfl

/-! ### `setPC` -/

@[simp] theorem State.setPC_regs (s : State) (v : Word) :
    (s.setPC v).regs = { s.regs with pc := v } := rfl

@[simp] theorem State.setPC_flags (s : State) (v : Word) :
    (s.setPC v).flags = s.flags := rfl

@[simp] theorem State.setPC_line (s : State) (v : Word) :
    (s.setPC v).line = s.line := rfl

@[simp] theorem State.setPC_ilatch (s : State) (v : Word) :
    (s.setPC v).ilatch = s.ilatch := rfl

@[simp] theorem State.setPC_fault (s : State) (v : Word) :
    (s.setPC v).fault = s.fault := rfl

@[simp] theorem State.setPC_mem (s : State) (v : Word) :
    (s.setPC v).mem = s.mem := rfl

@[simp] theorem State.setPC_env (s : State) (v : Word) :
    (s.setPC v).env = s.env := rfl

@[simp] theorem State.setPC_log (s : State) (v : Word) :
    (s.setPC v).log = s.log := rfl

/-! ### `jumpLong` -/

@[simp] theorem State.jumpLong_regs (s : State) (b : Byte) (v : Word) :
    (s.jumpLong b v).regs = { s.regs with pbr := b, pc := v } := rfl

@[simp] theorem State.jumpLong_flags (s : State) (b : Byte) (v : Word) :
    (s.jumpLong b v).flags = s.flags := rfl

@[simp] theorem State.jumpLong_line (s : State) (b : Byte) (v : Word) :
    (s.jumpLong b v).line = s.line := rfl

@[simp] theorem State.jumpLong_ilatch (s : State) (b : Byte) (v : Word) :
    (s.jumpLong b v).ilatch = s.ilatch := rfl

@[simp] theorem State.jumpLong_fault (s : State) (b : Byte) (v : Word) :
    (s.jumpLong b v).fault = s.fault := rfl

@[simp] theorem State.jumpLong_mem (s : State) (b : Byte) (v : Word) :
    (s.jumpLong b v).mem = s.mem := rfl

@[simp] theorem State.jumpLong_env (s : State) (b : Byte) (v : Word) :
    (s.jumpLong b v).env = s.env := rfl

@[simp] theorem State.jumpLong_log (s : State) (b : Byte) (v : Word) :
    (s.jumpLong b v).log = s.log := rfl

/-! ### `enterFlags` -/

@[simp] theorem State.enterFlags_regs (s : State) :
    (s.enterFlags).regs = s.regs := rfl

@[simp] theorem State.enterFlags_flags (s : State) :
    (s.enterFlags).flags = { s.flags with i := true, df := false } := rfl

@[simp] theorem State.enterFlags_line (s : State) :
    (s.enterFlags).line = s.line := rfl

@[simp] theorem State.enterFlags_ilatch (s : State) :
    (s.enterFlags).ilatch = s.ilatch := rfl

@[simp] theorem State.enterFlags_fault (s : State) :
    (s.enterFlags).fault = s.fault := rfl

@[simp] theorem State.enterFlags_mem (s : State) :
    (s.enterFlags).mem = s.mem := rfl

@[simp] theorem State.enterFlags_env (s : State) :
    (s.enterFlags).env = s.env := rfl

@[simp] theorem State.enterFlags_log (s : State) :
    (s.enterFlags).log = s.log := rfl

/-! ### `acknowledge` -/

@[simp] theorem State.acknowledge_regs (s : State) (k : Interrupt) :
    (s.acknowledge k).regs = s.regs := by cases k <;> rfl

@[simp] theorem State.acknowledge_flags (s : State) (k : Interrupt) :
    (s.acknowledge k).flags = s.flags := by cases k <;> rfl

@[simp] theorem State.acknowledge_ilatch (s : State) (k : Interrupt) :
    (s.acknowledge k).ilatch = s.ilatch := by cases k <;> rfl

@[simp] theorem State.acknowledge_fault (s : State) (k : Interrupt) :
    (s.acknowledge k).fault = s.fault := by cases k <;> rfl

@[simp] theorem State.acknowledge_mem (s : State) (k : Interrupt) :
    (s.acknowledge k).mem = s.mem := by cases k <;> rfl

@[simp] theorem State.acknowledge_env (s : State) (k : Interrupt) :
    (s.acknowledge k).env = s.env := by cases k <;> rfl

@[simp] theorem State.acknowledge_log (s : State) (k : Interrupt) :
    (s.acknowledge k).log = s.log := by cases k <;> rfl

/-! ### `tick` -/

@[simp] theorem State.tick_regs (s : State) (call : BusCall) :
    (s.tick call).regs = s.regs := rfl

@[simp] theorem State.tick_flags (s : State) (call : BusCall) :
    (s.tick call).flags = s.flags := rfl

@[simp] theorem State.tick_line (s : State) (call : BusCall) :
    (s.tick call).line = lineOf s.env.head? s.line := rfl

@[simp] theorem State.tick_ilatch (s : State) (call : BusCall) :
    (s.tick call).ilatch = s.ilatch := rfl

@[simp] theorem State.tick_fault (s : State) (call : BusCall) :
    (s.tick call).fault = s.fault := rfl

@[simp] theorem State.tick_mem (s : State) (call : BusCall) :
    (s.tick call).mem = s.mem := rfl

@[simp] theorem State.tick_env (s : State) (call : BusCall) :
    (s.tick call).env = s.env.tail := rfl

@[simp] theorem State.tick_log (s : State) (call : BusCall) :
    (s.tick call).log = s.log ++ [call] := rfl

/-! ### `beginStep` -/

@[simp] theorem State.beginStep_regs (s : State) :
    (s.beginStep).regs = s.regs := rfl

@[simp] theorem State.beginStep_flags (s : State) :
    (s.beginStep).flags = s.flags := rfl

@[simp] theorem State.beginStep_line (s : State) :
    (s.beginStep).line = s.line := rfl

@[simp] theorem State.beginStep_ilatch (s : State) :
    (s.beginStep).ilatch = s.ilatch := rfl

@[simp] theorem State.beginStep_fault (s : State) :
    (s.beginStep).fault = s.fault := rfl

@[simp] theorem State.beginStep_mem (s : State) :
    (s.beginStep).mem = s.mem := rfl

@[simp] theorem State.beginStep_env (s : State) :
    (s.beginStep).env = s.env := rfl

@[simp] theorem State.beginStep_log (s : State) :
    (s.beginStep).log = [] := rfl

/-! ### `afterCalls` -/

@[simp] theorem State.afterCalls_regs (s : State) (len : Nat) (calls : List BusCall) :
    (s.afterCalls len calls).regs = { s.regs with pc := s.regs.pc + BitVec.ofNat 16 len } := rfl

@[simp] theorem State.afterCalls_flags (s : State) (len : Nat) (calls : List BusCall) :
    (s.afterCalls len calls).flags = s.flags := rfl

@[simp] theorem State.afterCalls_line (s : State) (len : Nat) (calls : List BusCall) :
    (s.afterCalls len calls).line = s.lineAt calls.length := rfl

@[simp] theorem State.afterCalls_ilatch (s : State) (len : Nat) (calls : List BusCall) :
    (s.afterCalls len calls).ilatch = s.ilatch := rfl

@[simp] theorem State.afterCalls_fault (s : State) (len : Nat) (calls : List BusCall) :
    (s.afterCalls len calls).fault = s.fault := rfl

@[simp] theorem State.afterCalls_mem (s : State) (len : Nat) (calls : List BusCall) :
    (s.afterCalls len calls).mem = s.mem := rfl

@[simp] theorem State.afterCalls_env (s : State) (len : Nat) (calls : List BusCall) :
    (s.afterCalls len calls).env = s.envAt calls.length := rfl

@[simp] theorem State.afterCalls_log (s : State) (len : Nat) (calls : List BusCall) :
    (s.afterCalls len calls).log = s.log ++ calls := rfl

/-! ### `ranThrough` -/

@[simp] theorem State.ranThrough_regs (s : State) (len : Nat) (calls : List BusCall) (i : Bool) :
    (s.ranThrough len calls i).regs = { s.regs with pc := s.regs.pc + BitVec.ofNat 16 len } := rfl

@[simp] theorem State.ranThrough_flags (s : State) (len : Nat) (calls : List BusCall) (i : Bool) :
    (s.ranThrough len calls i).flags = s.flags := rfl

@[simp] theorem State.ranThrough_line (s : State) (len : Nat) (calls : List BusCall) (i : Bool) :
    (s.ranThrough len calls i).line = s.lineAt calls.length := rfl

@[simp] theorem State.ranThrough_ilatch (s : State) (len : Nat) (calls : List BusCall) (i : Bool) :
    (s.ranThrough len calls i).ilatch = pollResult (s.lineAt (calls.length - 1)) i := rfl

@[simp] theorem State.ranThrough_fault (s : State) (len : Nat) (calls : List BusCall) (i : Bool) :
    (s.ranThrough len calls i).fault = s.fault := rfl

@[simp] theorem State.ranThrough_mem (s : State) (len : Nat) (calls : List BusCall) (i : Bool) :
    (s.ranThrough len calls i).mem = s.mem := rfl

@[simp] theorem State.ranThrough_env (s : State) (len : Nat) (calls : List BusCall) (i : Bool) :
    (s.ranThrough len calls i).env = s.envAt calls.length := rfl

@[simp] theorem State.ranThrough_log (s : State) (len : Nat) (calls : List BusCall) (i : Bool) :
    (s.ranThrough len calls i).log = s.log ++ calls := rfl

/-! ### `afterImplied` -/

@[simp] theorem State.afterImplied_regs (s : State) :
    (s.afterImplied).regs = { s.regs with pc := s.regs.pc + 1 } := rfl

@[simp] theorem State.afterImplied_flags (s : State) :
    (s.afterImplied).flags = s.flags := rfl

@[simp] theorem State.afterImplied_line (s : State) :
    (s.afterImplied).line = s.lineAt 2 := rfl

@[simp] theorem State.afterImplied_ilatch (s : State) :
    (s.afterImplied).ilatch = pollResult (s.lineAt 1) s.flags.i := rfl

@[simp] theorem State.afterImplied_fault (s : State) :
    (s.afterImplied).fault = s.fault := rfl

@[simp] theorem State.afterImplied_mem (s : State) :
    (s.afterImplied).mem = s.mem := rfl

@[simp] theorem State.afterImplied_env (s : State) :
    (s.afterImplied).env = s.envAt 2 := rfl

@[simp] theorem State.afterImplied_log (s : State) :
    (s.afterImplied).log = s.log ++ (s.fetchCalls 1 ++ [.idle]) := rfl

/-! ### `afterRead` -/

@[simp] theorem State.afterRead_regs (s : State) (mode : Mode) (w : Width) :
    (s.afterRead mode w).regs = { s.regs with pc := s.regs.pc + BitVec.ofNat 16 (1 + mode.operandBytes) } := rfl

@[simp] theorem State.afterRead_flags (s : State) (mode : Mode) (w : Width) :
    (s.afterRead mode w).flags = s.flags := rfl

@[simp] theorem State.afterRead_line (s : State) (mode : Mode) (w : Width) :
    (s.afterRead mode w).line = s.lineAt (s.readCalls mode w).length := rfl

@[simp] theorem State.afterRead_ilatch (s : State) (mode : Mode) (w : Width) :
    (s.afterRead mode w).ilatch = pollResult (s.lineAt ((s.readCalls mode w).length - 1)) s.flags.i := rfl

@[simp] theorem State.afterRead_fault (s : State) (mode : Mode) (w : Width) :
    (s.afterRead mode w).fault = s.fault := rfl

@[simp] theorem State.afterRead_mem (s : State) (mode : Mode) (w : Width) :
    (s.afterRead mode w).mem = s.mem := rfl

@[simp] theorem State.afterRead_env (s : State) (mode : Mode) (w : Width) :
    (s.afterRead mode w).env = s.envAt (s.readCalls mode w).length := rfl

@[simp] theorem State.afterRead_log (s : State) (mode : Mode) (w : Width) :
    (s.afterRead mode w).log = s.log ++ s.readCalls mode w := rfl

/-! ### `afterImmediate` -/

@[simp] theorem State.afterImmediate_regs (s : State) (w : Width) :
    (s.afterImmediate w).regs = { s.regs with pc := s.regs.pc + BitVec.ofNat 16 (1 + w.immBytes) } := by cases w <;> rfl

@[simp] theorem State.afterImmediate_flags (s : State) (w : Width) :
    (s.afterImmediate w).flags = s.flags := by cases w <;> rfl

@[simp] theorem State.afterImmediate_line (s : State) (w : Width) :
    (s.afterImmediate w).line = s.lineAt (1 + w.immBytes) := by cases w <;> rfl

@[simp] theorem State.afterImmediate_ilatch (s : State) (w : Width) :
    (s.afterImmediate w).ilatch = pollResult (s.lineAt w.immBytes) s.flags.i := by cases w <;> rfl

@[simp] theorem State.afterImmediate_fault (s : State) (w : Width) :
    (s.afterImmediate w).fault = s.fault := by cases w <;> rfl

@[simp] theorem State.afterImmediate_mem (s : State) (w : Width) :
    (s.afterImmediate w).mem = s.mem := by cases w <;> rfl

@[simp] theorem State.afterImmediate_env (s : State) (w : Width) :
    (s.afterImmediate w).env = s.envAt (1 + w.immBytes) := by cases w <;> rfl

@[simp] theorem State.afterImmediate_log (s : State) (w : Width) :
    (s.afterImmediate w).log = s.log ++ s.fetchCalls (1 + w.immBytes) := by cases w <;> rfl

/-! ### `accepted` -/

@[simp] theorem State.accepted_regs (s : State) (l : InterruptLine) :
    (s.accepted l).regs = s.regs := rfl

@[simp] theorem State.accepted_flags (s : State) (l : InterruptLine) :
    (s.accepted l).flags = s.flags := rfl

@[simp] theorem State.accepted_line (s : State) (l : InterruptLine) :
    (s.accepted l).line = l := rfl

@[simp] theorem State.accepted_ilatch (s : State) (l : InterruptLine) :
    (s.accepted l).ilatch = none := rfl

@[simp] theorem State.accepted_fault (s : State) (l : InterruptLine) :
    (s.accepted l).fault = s.fault := rfl

@[simp] theorem State.accepted_mem (s : State) (l : InterruptLine) :
    (s.accepted l).mem = s.mem := rfl

@[simp] theorem State.accepted_env (s : State) (l : InterruptLine) :
    (s.accepted l).env = s.env := rfl

@[simp] theorem State.accepted_log (s : State) (l : InterruptLine) :
    (s.accepted l).log = [] := rfl

/-! ### `withBytes` -/

@[simp] theorem State.withBytes_regs (s : State) (bytes : List Byte) :
    (s.withBytes bytes).regs = s.regs := rfl

@[simp] theorem State.withBytes_flags (s : State) (bytes : List Byte) :
    (s.withBytes bytes).flags = s.flags := rfl

@[simp] theorem State.withBytes_line (s : State) (bytes : List Byte) :
    (s.withBytes bytes).line = s.line := rfl

@[simp] theorem State.withBytes_ilatch (s : State) (bytes : List Byte) :
    (s.withBytes bytes).ilatch = none := rfl

@[simp] theorem State.withBytes_fault (s : State) (bytes : List Byte) :
    (s.withBytes bytes).fault = none := rfl

@[simp] theorem State.withBytes_log (s : State) (bytes : List Byte) :
    (s.withBytes bytes).log = s.log := rfl

/-! ### The remaining fields -/

@[simp] theorem State.setA_regs (s : State) (v : Word) :
    (s.setA v).regs = { s.regs with a := accWrite s.widthA s.regs.a v } := by
  cases hw : s.widthA <;> simp only [State.setA, accWrite, hw]

@[simp] theorem State.loadFlags_regs (s : State) (b : Byte) :
    (s.loadFlags b).regs =
      { s.regs with
        x := indexFit (flagsFromByte b s.flags).xf s.regs.x
        y := indexFit (flagsFromByte b s.flags).xf s.regs.y } := by
  unfold State.loadFlags indexFit
  split <;> simp [zeroExt_eq_joinBytes]

@[simp] theorem State.acknowledge_reset (s : State) :
    (s.acknowledge .reset).line = { s.line with reset := false } := rfl

@[simp] theorem State.acknowledge_nmi (s : State) :
    (s.acknowledge .nmi).line = { s.line with nmi := false } := rfl

@[simp] theorem State.acknowledge_irq (s : State) : (s.acknowledge .irq).line = s.line := rfl

/-! ### Widths: no bus call and no write of another flag changes them (10_state.md R37) -/

@[simp] theorem State.widthA_afterCalls (s : State) (len : Nat) (cs : List BusCall) :
    (s.afterCalls len cs).widthA = s.widthA := rfl

@[simp] theorem State.widthX_afterCalls (s : State) (len : Nat) (cs : List BusCall) :
    (s.afterCalls len cs).widthX = s.widthX := rfl

@[simp] theorem State.widthA_ranThrough (s : State) (len : Nat) (cs : List BusCall) (i : Bool) :
    (s.ranThrough len cs i).widthA = s.widthA := rfl

@[simp] theorem State.widthX_ranThrough (s : State) (len : Nat) (cs : List BusCall) (i : Bool) :
    (s.ranThrough len cs i).widthX = s.widthX := rfl

@[simp] theorem State.getA_afterCalls (s : State) (len : Nat) (cs : List BusCall) :
    (s.afterCalls len cs).getA = s.getA := rfl

@[simp] theorem State.getA_ranThrough (s : State) (len : Nat) (cs : List BusCall) (i : Bool) :
    (s.ranThrough len cs i).getA = s.getA := rfl

end Sys2Proof.Machine
end

