-- ==== Sys2Proof/Laws/Stack.lean ====
section
/-! SUPPORT. The stack and the stored bytes: where pushes and stores go, and that nothing else is written
(20_memory.md R70 to R74, 40_addressing_modes.md R124, R125). -/

namespace Sys2Proof.Machine

open Sys2Proof

theorem lowByte_sub_one (v : Word) : lowByte (v - 1#16) = lowByte v - 1#8 := by
  apply BitVec.eq_of_toNat_eq
  simp [toNat_lowByte, BitVec.toNat_sub]
  omega

theorem lowByte_add_one (v : Word) : lowByte (v + 1#16) = lowByte v + 1#8 := by
  apply BitVec.eq_of_toNat_eq
  simp [toNat_lowByte, BitVec.toNat_add]

/-- Each push takes one from the low byte of S, wrapping or not. -/
theorem lowByte_stackDowns (wrap : Bool) (sp : Word) (k : Nat) :
    lowByte (stackDowns wrap sp k) = lowByte sp - BitVec.ofNat 8 k := by
  induction k with
  | zero => simp [stackDowns]
  | succ k ih =>
    have h : lowByte (stackDown wrap (stackDowns wrap sp k)) = lowByte (stackDowns wrap sp k) - 1#8 := by
      cases wrap <;> simp [stackDown, lowByte_sub_one]
    rw [stackDowns, h, ih]
    apply BitVec.eq_of_toNat_eq
    simp [BitVec.toNat_sub]
    omega

/-- Fewer than 257 pushes go to different addresses. -/
theorem pushAddr_ne (wrap : Bool) (sp : Word) {i j : Nat} (hi : i < 256) (hj : j < 256) (h : i ≠ j) :
    pushAddr wrap sp i ≠ pushAddr wrap sp j := by
  intro he
  have h1 := congrArg (fun a => lowByte (offsetOf a)) he
  simp only [pushAddr, offsetOf_bankAddr, lowByte_stackDowns] at h1
  have h2 := congrArg BitVec.toNat h1
  simp [BitVec.toNat_sub] at h2
  omega

theorem wf_pushed (mem : Memory) (wrap : Bool) (sp : Word) (k : Nat) (bytes : List Byte)
    (hw : mem.wf = true) : (mem.pushed wrap sp k bytes).wf = true := by
  induction bytes generalizing mem k with
  | nil => exact hw
  | cons b rest ih => exact ih _ _ (wf_write _ _ _ hw)

theorem read_pushed_other (mem : Memory) (wrap : Bool) (sp : Word) (k : Nat) (bytes : List Byte)
    (hw : mem.wf = true) (a : Addr) (h : ∀ j, j < bytes.length → a ≠ pushAddr wrap sp (k + j)) :
    (mem.pushed wrap sp k bytes).read a = mem.read a := by
  induction bytes generalizing mem k with
  | nil => rfl
  | cons b rest ih =>
    rw [Memory.pushed, ih _ _ (wf_write _ _ _ hw), read_write_other _ hw]
    · exact h 0 (by simp)
    · intro j hj
      have := h (j + 1) (by simpa using hj)
      rwa [show k + 1 + j = k + (j + 1) by omega]

theorem read_pushed (mem : Memory) (wrap : Bool) (sp : Word) (k : Nat) (bytes : List Byte)
    (hw : mem.wf = true) (hk : k + bytes.length ≤ 256) (j : Nat) (b : Byte) (hj : bytes[j]? = some b) :
    (mem.pushed wrap sp k bytes).read (pushAddr wrap sp (k + j)) = b := by
  induction bytes generalizing mem k j with
  | nil => simp at hj
  | cons c rest ih =>
    simp only [List.length_cons] at hk
    cases j with
    | zero =>
      rw [Memory.pushed, read_pushed_other _ _ _ _ _ (wf_write _ _ _ hw), Nat.add_zero,
        read_write_same _ hw]
      · simpa using hj
      · intro j hj'
        exact pushAddr_ne wrap sp (by omega) (by omega) (by omega)
    | succ j =>
      rw [Memory.pushed, show k + (j + 1) = k + 1 + j by omega]
      exact ih _ _ (wf_write _ _ _ hw) (by omega) _ (by simpa using hj)

/-- Everything a run of pushes does to the store (20_memory.md R70, R72). -/
theorem pushed_at (mem : Memory) (wrap : Bool) (sp : Word) (bytes : List Byte) (hw : mem.wf = true)
    (hlen : bytes.length ≤ 256) : PushedAt mem (mem.pushed wrap sp 0 bytes) wrap sp bytes := by
  refine ⟨wf_pushed _ _ _ _ _ hw, fun k b h => ?_, fun a h => read_pushed_other _ _ _ _ _ hw _ ?_⟩
  · have := read_pushed mem wrap sp 0 bytes hw (by omega) k b h
    rwa [Nat.zero_add] at this
  · simpa using h

/-- Everything a store does to memory, at an address whose two bytes are apart (R124). -/
theorem stored_at (mem : Memory) (ea : EffAddr) (w : Width) (v : Word) (hw : mem.wf = true)
    (hne : ea.lo ≠ ea.hi) : StoredAt mem (mem.store ea w v) ea w v := by
  refine ⟨wf_store _ _ _ _ hw, ?_, ?_, ?_⟩
  · cases w
    · exact read_write_same _ hw _ _
    · rw [Memory.store, read_write_other _ (wf_write _ _ _ hw) hne, read_write_same _ hw]
  · rintro rfl
    exact read_write_same _ (wf_write _ _ _ hw) _ _
  · intro a hlo hhi
    cases w
    · exact read_write_other _ hw hlo _
    · rw [Memory.store, read_write_other _ (wf_write _ _ _ hw) (hhi rfl), read_write_other _ hw hlo]

/-- Everything the write-back of a modify instruction does to memory (R125). -/
theorem modified_at (mem : Memory) (e : Bool) (ea : EffAddr) (w : Width) (v r : Word) (hw : mem.wf = true)
    (hne : ea.lo ≠ ea.hi) : StoredAt mem (mem.modify e ea w v r) ea w r := by
  have h0 : (if e then mem.write ea.lo (lowByte v) else mem).wf = true := by
    split
    · exact wf_write _ _ _ hw
    · exact hw
  have h1 : ∀ a, a ≠ ea.lo → (if e then mem.write ea.lo (lowByte v) else mem).read a = mem.read a := by
    intro a ha
    split
    · exact read_write_other _ hw ha _
    · rfl
  refine ⟨wf_modify _ _ _ _ _ _ hw, ?_, ?_, ?_⟩
  · cases w
    · exact read_write_same _ h0 _ _
    · exact read_write_same _ (wf_write _ _ _ h0) _ _
  · rintro rfl
    rw [Memory.modify, read_write_other _ (wf_write _ _ _ h0) hne.symm, read_write_same _ h0]
  · intro a hlo hhi
    cases w
    · rw [Memory.modify, read_write_other _ h0 hlo, h1 a hlo]
    · rw [Memory.modify, read_write_other _ (wf_write _ _ _ h0) hlo, read_write_other _ h0 (hhi rfl),
        h1 a hlo]

/-- The two bytes of an operand are never the same byte. -/
theorem effAddr_apart (s : State) (mode : Mode) : (s.effAddr mode).lo ≠ (s.effAddr mode).hi := by
  have long : ∀ a : Addr, a ≠ a + 1 := by
    intro a h
    have h1 := congrArg BitVec.toNat h
    simp [BitVec.toNat_add] at h1
    have := a.isLt
    omega
  have word : ∀ v : Word, bankAddr 0x00 v ≠ bankAddr 0x00 (v + 1) := by
    intro v h
    have h1 := congrArg (fun a => (offsetOf a).toNat) h
    simp [BitVec.toNat_add] at h1
    have := v.isLt
    omega
  have direct : ∀ o : Word, s.directAddr o 0 ≠ s.directAddr o 1 := by
    intro o h
    unfold State.directAddr at h
    split at h
    · have h1 := congrArg (fun a => (lowByte (offsetOf a)).toNat) h
      simp [lowByte_add_one, BitVec.toNat_add] at h1
      have := (lowByte o).isLt
      omega
    · exact word (s.regs.d + o) (by simpa using h)
  cases mode
  all_goals first
    | exact direct _
    | exact long _
    | exact word _

end Sys2Proof.Machine
end

