-- ==== Sys2Proof/Laws/Exceptions.lean ====
section
/-! SUPPORT. Taking an exception, the reset sequence and the return from an exception: each RUN is the state
that the vocabulary of Sys2Proof/Safety.lean names. -/

namespace Sys2Proof.Machine

open Sys2Proof

/-- Taking an exception after the bus calls `cs` and `len` instruction bytes (60_exceptions.md R301). -/
theorem takeException_run (k : Option Interrupt) (bf : Bool) (s : State) (len : Nat) (cs : List BusCall) :
    (takeException k bf (s.afterCalls len cs)).2 = s.entered len cs (vectorAddr k s.flags.e) bf := by
  cases he : s.flags.e <;>
  simp [takeException, State.afterCalls, he, State.setS, State.stackAddr, State.enterFlags, jumpVector,
    State.jumpLong, State.entered, State.ranThrough, exceptionFrame, pushCalls, Memory.pushed, pushAddr,
    stackDowns, stackDown]

/-- What a step does with a latched NMI or IRQ (60_exceptions.md R300 step 2, R301, R302). -/
theorem serviceInterrupt_run (k : Interrupt) (hk : k ≠ .reset) (s : State) :
    (serviceInterrupt k s.beginStep).2 =
      (s.accepted (s.acknowledge k).line).entered 0
        [(s.accepted (s.acknowledge k).line).readCall 0 s.fetchAddr, .idle]
        (vectorAddr (some k) s.flags.e) false := by
  have h : ∀ k' : Interrupt, (acceptInterrupt k' (s.accepted (s.acknowledge k).line)).2 =
      (s.accepted (s.acknowledge k).line).entered 0
        [(s.accepted (s.acknowledge k).line).readCall 0 s.fetchAddr, .idle]
        (vectorAddr (some k') s.flags.e) false := by
    intro k'
    generalize hu : s.accepted (s.acknowledge k).line = u
    have hf : s.fetchAddr = u.fetchAddr := by rw [← hu]; rfl
    have he : s.flags.e = u.flags.e := by rw [← hu]; rfl
    rw [hf, he, ← takeException_run]
    simp [acceptInterrupt, tick_first u, busAnswer_first u, State.afterCalls, State.readCall]
  cases k with
  | reset => exact absurd rfl hk
  | nmi => exact h .nmi
  | irq => exact h .irq

/-- The reset sequence (70_reset_and_hazards.md R331). -/
theorem resetSequence_run (s : State) :
    (resetSequence s).2 =
      { s.ranThrough 0
          [s.readCall 0 s.fetchAddr, .idle,
           s.readCall 2 (bankAddr 0x00 (joinBytes 0x01 (lowByte s.regs.s))),
           s.readCall 3 (bankAddr 0x00 (joinBytes 0x01 (lowByte s.regs.s - 1))),
           s.readCall 4 (bankAddr 0x00 (joinBytes 0x01 (lowByte s.regs.s - 2))),
           s.readCall 5 0x00FFFC, s.readCall 6 0x00FFFD] true with
        regs :=
          { a := s.regs.a, x := joinBytes 0x00 (lowByte s.regs.x), y := joinBytes 0x00 (lowByte s.regs.y),
            s := joinBytes 0x01 (lowByte s.regs.s - 3), d := 0,
            pc := joinBytes (s.byteAt 6 0x00FFFD) (s.byteAt 5 0x00FFFC), pbr := 0x00, dbr := 0x00 }
        flags :=
          { n := s.flags.n, v := s.flags.v, m := true, xf := true, df := false, i := true, z := s.flags.z,
            c := s.flags.c, e := true } } := by
  have sub : ∀ b : Byte, b - 1#8 - 1#8 = b - 2#8 ∧ b - 2#8 - 1#8 = b - 3#8 := by
    intro b
    constructor <;> (apply BitVec.eq_of_toNat_eq; simp [BitVec.toNat_sub]; omega)
  simp [resetSequence, tick_first s, busAnswer_first s, State.resetForced, resetStackCycle,
    State.stackAddr, State.enterFlags, jumpVector, vectorAddr, State.jumpLong, State.ranThrough,
    State.afterCalls, State.readCall, zeroExt_eq_joinBytes, (sub _).1, (sub _).2]

/-- An unimplemented opcode (60_exceptions.md R290): the error, and the state the step leaves. -/
theorem raiseUnimplemented_run (s : State) :
    raiseUnimplemented s =
      ({ pc := s.fetchAddr, opcode := s.byteAt 0 s.fetchAddr },
        { s.afterCalls 1 [s.readCall 0 s.fetchAddr] with
          fault := some { pc := s.fetchAddr, opcode := s.byteAt 0 s.fetchAddr } }) := by
  simp [raiseUnimplemented, tick_first s, busAnswer_first s, State.afterCalls, State.readCall,
    State.fetchAddr]

/-- The return from an exception, after RTI's opcode fetch (45_control_stack_system.md R243). -/
theorem returnFromException_run (s : State) :
    (returnFromException (s.afterCalls 1 (s.fetchCalls 1))).2 =
      let e := s.flags.e
      let count := if e then 3 else 4
      let p := s.pulledByte e 3 0
      State.flagsLoaded
        { s.ranThrough 1 (s.fetchCalls 1 ++ [.idle, .idle] ++ s.pullCalls e 3 count) (p.getLsbD 2) with
          regs.pc := joinBytes (s.pulledByte e 3 2) (s.pulledByte e 3 1)
          regs.pbr := if e then s.regs.pbr else s.pulledByte e 3 3
          regs.s := stackUps e s.regs.s count } p := by
  have load : ∀ (b : Byte) (t : State), t.loadFlags b = t.flagsLoaded b := by
    intro b t
    unfold State.loadFlags State.flagsLoaded indexFit
    split <;> simp [State.clearIndexHigh, zeroExt_eq_joinBytes]
  cases he : s.flags.e <;>
  simp [returnFromException, State.afterCalls, State.setS, State.stackAddr, load, State.flagsLoaded,
    State.fetchCalls, List.range_succ, State.readCall, State.ranThrough, State.pullCalls,
    State.pulledByte, pullAddr, stackUps, stackUp, State.jumpLong, State.setPC, flagsFromByte, he]

end Sys2Proof.Machine
end

