-- ==== Sys2Proof/Laws/Fetch.lean ====
section
/-! SUPPORT. The bytes the fetches of the next instruction return, and the decoder's need of no more bytes
than the instruction has. -/

namespace Sys2Proof.Machine

open Sys2Proof

/-- `n` fetches in a row after `k` bus calls. -/
theorem fetchMany_seen (s : State) (n k : Nat) (a x y sp d pc : Word) (pbr dbr : Byte) (f : Flags)
    (il : Option Interrupt) (flt : Option FaultRecord) (m : Memory) (log : List BusCall) :
    (fetchMany n
        { regs := { a := a, x := x, y := y, s := sp, d := d, pc := pc, pbr := pbr, dbr := dbr }
          flags := f, line := s.lineAt k, ilatch := il, fault := flt, mem := m, env := s.envAt k,
          log := log }).1 =
      (List.range n).map fun j => s.byteIn m (k + j) (bankAddr pbr (pc + BitVec.ofNat 16 j)) := by
  induction n generalizing k pc log with
  | zero => rfl
  | succ n ih =>
    simp only [fetchMany, core_bind, core_fetch, core_pure, State.fetchAddr, tick_seen, busAnswer_seen]
    rw [ih, List.range_succ_eq_map]
    simp only [List.map_cons, List.map_map, Nat.add_zero, BitVec.ofNat_eq_ofNat, BitVec.add_zero]
    congr 1
    apply List.map_congr_left
    intro j _
    have hp : pc + 1#16 + BitVec.ofNat 16 j = pc + BitVec.ofNat 16 (j + 1) := by
      apply BitVec.eq_of_toNat_eq
      simp [BitVec.toNat_add]
      omega
    simp [hp, show k + 1 + j = k + (j + 1) by omega]

/-- The bytes of the next instruction (log 5): consecutive bytes of the program bank, except that JSL's bank
byte is fetched after PBR has been pushed (45_control_stack_system.md R240). -/
theorem instrBytes_eq (s : State) :
    s.instrBytes = s.byteAt 0 s.fetchAddr ::
      if s.byteAt 0 s.fetchAddr = 0x22 then
        [s.byteAt 1 (s.codeAddr 1), s.byteAt 2 (s.codeAddr 2),
         s.byteIn (s.mem.write (bankAddr 0x00 s.regs.s) s.regs.pbr) 5 (s.codeAddr 3)]
      else
        (List.range (s.operandBytes (s.byteAt 0 s.fetchAddr))).map fun j =>
          s.byteAt (1 + j) (s.codeAddr (1 + j)) := by
  simp only [State.instrBytes, fetchInstruction, core_bind, core_fetch, core_query, core_pure,
    busAnswer_first s, tick_first s]
  congr 1
  rw [show ∀ op : Byte, State.operandBytes
      { s with line := s.lineAt 1, env := s.envAt 1,
               log := s.log ++ [BusCall.read s.fetchAddr (s.byteAt 0 s.fetchAddr)],
               regs.pc := s.regs.pc + 1 } op = s.operandBytes op from fun _ => rfl]
  generalize s.byteAt 0 s.fetchAddr = op
  unfold fetchOperandBytes
  split
  · simp [fetchMany, State.fetchAddr, State.codeAddr, State.stackAddr, BitVec.add_assoc]
  · rw [fetchMany_seen]
    apply List.map_congr_left
    intro j _
    have hp : s.regs.pc + 1 + BitVec.ofNat 16 j = s.regs.pc + BitVec.ofNat 16 (1 + j) := by
      apply BitVec.eq_of_toNat_eq
      simp [BitVec.toNat_add]
      omega
    rw [hp]
    rfl

/-- The cycle log plays no part in what is fetched. -/
theorem instrBytes_beginStep (s : State) : s.beginStep.instrBytes = s.instrBytes := by
  rw [instrBytes_eq, instrBytes_eq]
  rfl

/-- A decoded instruction is decoded from its own bytes. -/
theorem build_append (m xf : Bool) (fmt : Format) (bs rest extra : List Byte) (i : Instr)
    (h : fmt.build m xf bs = some (i, rest)) : fmt.build m xf (bs ++ extra) = some (i, rest ++ extra) := by
  cases fmt
  case plain => simp_all [Format.build]
  case byte => rcases bs with _ | ⟨b, bs⟩ <;> simp_all [Format.build]
  case word => rcases bs with _ | ⟨b, _ | ⟨c, bs⟩⟩ <;> simp_all [Format.build]
  case long => rcases bs with _ | ⟨b, _ | ⟨c, _ | ⟨d, bs⟩⟩⟩ <;> simp_all [Format.build]
  case banks => rcases bs with _ | ⟨b, _ | ⟨c, bs⟩⟩ <;> simp_all [Format.build]
  case immM => cases m <;> rcases bs with _ | ⟨b, _ | ⟨c, bs⟩⟩ <;> simp_all [Format.build, readImm]
  case immX => cases xf <;> rcases bs with _ | ⟨b, _ | ⟨c, bs⟩⟩ <;> simp_all [Format.build, readImm]

end Sys2Proof.Machine
end

