-- ==== Sys2Proof/Laws/PerInstr.lean ====
section
/-! SUPPORT. One lemma per instruction: its encoding starts with an opcode byte of the map, and has as many
operand bytes as that opcode's format takes under the widths for which the instruction is well-formed. -/

namespace Sys2Proof.Laws.EncodedShape

open Sys2Proof Sys2Proof.Machine

/-- The encoding is an opcode byte of the map (30_encoding.md R96) and as many operand bytes as its format
has (R91). -/
def Statement (i : Instr) : Prop :=
  ∀ m xf : Bool, WellFormed m xf i = true → ∃ (op : Byte) (fmt : Format) (operands : List Byte),
    encode i = op :: operands ∧ opcodeFormat op = some fmt ∧ operands.length = fmt.operandBytes m xf

/-- The length of an immediate of the right width. -/
theorem immediate_length (narrow : Bool) (v : Imm) (h : v.fits narrow = true) :
    v.bytes.length = if narrow then 1 else 2 := by
  cases narrow <;> cases v <;> simp_all [Imm.fits, Imm.bytes, wordBytes]

theorem brk (sig : Byte) : Statement (.brk sig) :=
  fun _ _ _ => ⟨_, .byte .brk, _, rfl, rfl, rfl⟩

theorem oraSr (off : Byte) : Statement (.oraSr off) :=
  fun _ _ _ => ⟨_, .byte .oraSr, _, rfl, rfl, rfl⟩

theorem tsbDp (off : Byte) : Statement (.tsbDp off) :=
  fun _ _ _ => ⟨_, .byte .tsbDp, _, rfl, rfl, rfl⟩

theorem oraDp (off : Byte) : Statement (.oraDp off) :=
  fun _ _ _ => ⟨_, .byte .oraDp, _, rfl, rfl, rfl⟩

theorem aslDp (off : Byte) : Statement (.aslDp off) :=
  fun _ _ _ => ⟨_, .byte .aslDp, _, rfl, rfl, rfl⟩

theorem php : Statement .php :=
  fun _ _ _ => ⟨_, .plain .php, _, rfl, rfl, rfl⟩

theorem oraImm (v : Imm) : Statement (.oraImm v) :=
  fun m _ h => ⟨_, .immM .oraImm, v.bytes, rfl, rfl, immediate_length m v h⟩

theorem aslAcc : Statement .aslAcc :=
  fun _ _ _ => ⟨_, .plain .aslAcc, _, rfl, rfl, rfl⟩

theorem phd : Statement .phd :=
  fun _ _ _ => ⟨_, .plain .phd, _, rfl, rfl, rfl⟩

theorem tsbAbs (addr : Word) : Statement (.tsbAbs addr) :=
  fun _ _ _ => ⟨_, .word .tsbAbs, _, rfl, rfl, rfl⟩

theorem oraAbs (addr : Word) : Statement (.oraAbs addr) :=
  fun _ _ _ => ⟨_, .word .oraAbs, _, rfl, rfl, rfl⟩

theorem aslAbs (addr : Word) : Statement (.aslAbs addr) :=
  fun _ _ _ => ⟨_, .word .aslAbs, _, rfl, rfl, rfl⟩

theorem oraLong (addr : Addr) : Statement (.oraLong addr) :=
  fun _ _ _ => ⟨_, .long .oraLong, _, rfl, rfl, rfl⟩

theorem bpl (disp : Byte) : Statement (.bpl disp) :=
  fun _ _ _ => ⟨_, .byte .bpl, _, rfl, rfl, rfl⟩

theorem oraIndY (off : Byte) : Statement (.oraIndY off) :=
  fun _ _ _ => ⟨_, .byte .oraIndY, _, rfl, rfl, rfl⟩

theorem oraInd (off : Byte) : Statement (.oraInd off) :=
  fun _ _ _ => ⟨_, .byte .oraInd, _, rfl, rfl, rfl⟩

theorem trbDp (off : Byte) : Statement (.trbDp off) :=
  fun _ _ _ => ⟨_, .byte .trbDp, _, rfl, rfl, rfl⟩

theorem oraDpX (off : Byte) : Statement (.oraDpX off) :=
  fun _ _ _ => ⟨_, .byte .oraDpX, _, rfl, rfl, rfl⟩

theorem aslDpX (off : Byte) : Statement (.aslDpX off) :=
  fun _ _ _ => ⟨_, .byte .aslDpX, _, rfl, rfl, rfl⟩

theorem clc : Statement .clc :=
  fun _ _ _ => ⟨_, .plain .clc, _, rfl, rfl, rfl⟩

theorem oraAbsY (addr : Word) : Statement (.oraAbsY addr) :=
  fun _ _ _ => ⟨_, .word .oraAbsY, _, rfl, rfl, rfl⟩

theorem incAcc : Statement .incAcc :=
  fun _ _ _ => ⟨_, .plain .incAcc, _, rfl, rfl, rfl⟩

theorem tcs : Statement .tcs :=
  fun _ _ _ => ⟨_, .plain .tcs, _, rfl, rfl, rfl⟩

theorem trbAbs (addr : Word) : Statement (.trbAbs addr) :=
  fun _ _ _ => ⟨_, .word .trbAbs, _, rfl, rfl, rfl⟩

theorem oraAbsX (addr : Word) : Statement (.oraAbsX addr) :=
  fun _ _ _ => ⟨_, .word .oraAbsX, _, rfl, rfl, rfl⟩

theorem aslAbsX (addr : Word) : Statement (.aslAbsX addr) :=
  fun _ _ _ => ⟨_, .word .aslAbsX, _, rfl, rfl, rfl⟩

theorem jsr (addr : Word) : Statement (.jsr addr) :=
  fun _ _ _ => ⟨_, .word .jsr, _, rfl, rfl, rfl⟩

theorem jsl (addr : Addr) : Statement (.jsl addr) :=
  fun _ _ _ => ⟨_, .long .jsl, _, rfl, rfl, rfl⟩

theorem andSr (off : Byte) : Statement (.andSr off) :=
  fun _ _ _ => ⟨_, .byte .andSr, _, rfl, rfl, rfl⟩

theorem bitDp (off : Byte) : Statement (.bitDp off) :=
  fun _ _ _ => ⟨_, .byte .bitDp, _, rfl, rfl, rfl⟩

theorem andDp (off : Byte) : Statement (.andDp off) :=
  fun _ _ _ => ⟨_, .byte .andDp, _, rfl, rfl, rfl⟩

theorem rolDp (off : Byte) : Statement (.rolDp off) :=
  fun _ _ _ => ⟨_, .byte .rolDp, _, rfl, rfl, rfl⟩

theorem plp : Statement .plp :=
  fun _ _ _ => ⟨_, .plain .plp, _, rfl, rfl, rfl⟩

theorem andImm (v : Imm) : Statement (.andImm v) :=
  fun m _ h => ⟨_, .immM .andImm, v.bytes, rfl, rfl, immediate_length m v h⟩

theorem rolAcc : Statement .rolAcc :=
  fun _ _ _ => ⟨_, .plain .rolAcc, _, rfl, rfl, rfl⟩

theorem pld : Statement .pld :=
  fun _ _ _ => ⟨_, .plain .pld, _, rfl, rfl, rfl⟩

theorem bitAbs (addr : Word) : Statement (.bitAbs addr) :=
  fun _ _ _ => ⟨_, .word .bitAbs, _, rfl, rfl, rfl⟩

theorem andAbs (addr : Word) : Statement (.andAbs addr) :=
  fun _ _ _ => ⟨_, .word .andAbs, _, rfl, rfl, rfl⟩

theorem rolAbs (addr : Word) : Statement (.rolAbs addr) :=
  fun _ _ _ => ⟨_, .word .rolAbs, _, rfl, rfl, rfl⟩

theorem andLong (addr : Addr) : Statement (.andLong addr) :=
  fun _ _ _ => ⟨_, .long .andLong, _, rfl, rfl, rfl⟩

theorem bmi (disp : Byte) : Statement (.bmi disp) :=
  fun _ _ _ => ⟨_, .byte .bmi, _, rfl, rfl, rfl⟩

theorem andIndY (off : Byte) : Statement (.andIndY off) :=
  fun _ _ _ => ⟨_, .byte .andIndY, _, rfl, rfl, rfl⟩

theorem andInd (off : Byte) : Statement (.andInd off) :=
  fun _ _ _ => ⟨_, .byte .andInd, _, rfl, rfl, rfl⟩

theorem bitDpX (off : Byte) : Statement (.bitDpX off) :=
  fun _ _ _ => ⟨_, .byte .bitDpX, _, rfl, rfl, rfl⟩

theorem andDpX (off : Byte) : Statement (.andDpX off) :=
  fun _ _ _ => ⟨_, .byte .andDpX, _, rfl, rfl, rfl⟩

theorem rolDpX (off : Byte) : Statement (.rolDpX off) :=
  fun _ _ _ => ⟨_, .byte .rolDpX, _, rfl, rfl, rfl⟩

theorem sec : Statement .sec :=
  fun _ _ _ => ⟨_, .plain .sec, _, rfl, rfl, rfl⟩

theorem andAbsY (addr : Word) : Statement (.andAbsY addr) :=
  fun _ _ _ => ⟨_, .word .andAbsY, _, rfl, rfl, rfl⟩

theorem decAcc : Statement .decAcc :=
  fun _ _ _ => ⟨_, .plain .decAcc, _, rfl, rfl, rfl⟩

theorem tsc : Statement .tsc :=
  fun _ _ _ => ⟨_, .plain .tsc, _, rfl, rfl, rfl⟩

theorem bitAbsX (addr : Word) : Statement (.bitAbsX addr) :=
  fun _ _ _ => ⟨_, .word .bitAbsX, _, rfl, rfl, rfl⟩

theorem andAbsX (addr : Word) : Statement (.andAbsX addr) :=
  fun _ _ _ => ⟨_, .word .andAbsX, _, rfl, rfl, rfl⟩

theorem rolAbsX (addr : Word) : Statement (.rolAbsX addr) :=
  fun _ _ _ => ⟨_, .word .rolAbsX, _, rfl, rfl, rfl⟩

theorem rti : Statement .rti :=
  fun _ _ _ => ⟨_, .plain .rti, _, rfl, rfl, rfl⟩

theorem eorSr (off : Byte) : Statement (.eorSr off) :=
  fun _ _ _ => ⟨_, .byte .eorSr, _, rfl, rfl, rfl⟩

theorem mvp (dst src : Byte) : Statement (.mvp dst src) :=
  fun _ _ _ => ⟨_, .banks .mvp, _, rfl, rfl, rfl⟩

theorem eorDp (off : Byte) : Statement (.eorDp off) :=
  fun _ _ _ => ⟨_, .byte .eorDp, _, rfl, rfl, rfl⟩

theorem lsrDp (off : Byte) : Statement (.lsrDp off) :=
  fun _ _ _ => ⟨_, .byte .lsrDp, _, rfl, rfl, rfl⟩

theorem pha : Statement .pha :=
  fun _ _ _ => ⟨_, .plain .pha, _, rfl, rfl, rfl⟩

theorem eorImm (v : Imm) : Statement (.eorImm v) :=
  fun m _ h => ⟨_, .immM .eorImm, v.bytes, rfl, rfl, immediate_length m v h⟩

theorem lsrAcc : Statement .lsrAcc :=
  fun _ _ _ => ⟨_, .plain .lsrAcc, _, rfl, rfl, rfl⟩

theorem phk : Statement .phk :=
  fun _ _ _ => ⟨_, .plain .phk, _, rfl, rfl, rfl⟩

theorem jmpAbs (addr : Word) : Statement (.jmpAbs addr) :=
  fun _ _ _ => ⟨_, .word .jmpAbs, _, rfl, rfl, rfl⟩

theorem eorAbs (addr : Word) : Statement (.eorAbs addr) :=
  fun _ _ _ => ⟨_, .word .eorAbs, _, rfl, rfl, rfl⟩

theorem lsrAbs (addr : Word) : Statement (.lsrAbs addr) :=
  fun _ _ _ => ⟨_, .word .lsrAbs, _, rfl, rfl, rfl⟩

theorem eorLong (addr : Addr) : Statement (.eorLong addr) :=
  fun _ _ _ => ⟨_, .long .eorLong, _, rfl, rfl, rfl⟩

theorem bvc (disp : Byte) : Statement (.bvc disp) :=
  fun _ _ _ => ⟨_, .byte .bvc, _, rfl, rfl, rfl⟩

theorem eorIndY (off : Byte) : Statement (.eorIndY off) :=
  fun _ _ _ => ⟨_, .byte .eorIndY, _, rfl, rfl, rfl⟩

theorem eorInd (off : Byte) : Statement (.eorInd off) :=
  fun _ _ _ => ⟨_, .byte .eorInd, _, rfl, rfl, rfl⟩

theorem mvn (dst src : Byte) : Statement (.mvn dst src) :=
  fun _ _ _ => ⟨_, .banks .mvn, _, rfl, rfl, rfl⟩

theorem eorDpX (off : Byte) : Statement (.eorDpX off) :=
  fun _ _ _ => ⟨_, .byte .eorDpX, _, rfl, rfl, rfl⟩

theorem lsrDpX (off : Byte) : Statement (.lsrDpX off) :=
  fun _ _ _ => ⟨_, .byte .lsrDpX, _, rfl, rfl, rfl⟩

theorem cli : Statement .cli :=
  fun _ _ _ => ⟨_, .plain .cli, _, rfl, rfl, rfl⟩

theorem eorAbsY (addr : Word) : Statement (.eorAbsY addr) :=
  fun _ _ _ => ⟨_, .word .eorAbsY, _, rfl, rfl, rfl⟩

theorem phy : Statement .phy :=
  fun _ _ _ => ⟨_, .plain .phy, _, rfl, rfl, rfl⟩

theorem tcd : Statement .tcd :=
  fun _ _ _ => ⟨_, .plain .tcd, _, rfl, rfl, rfl⟩

theorem jml (addr : Addr) : Statement (.jml addr) :=
  fun _ _ _ => ⟨_, .long .jml, _, rfl, rfl, rfl⟩

theorem eorAbsX (addr : Word) : Statement (.eorAbsX addr) :=
  fun _ _ _ => ⟨_, .word .eorAbsX, _, rfl, rfl, rfl⟩

theorem lsrAbsX (addr : Word) : Statement (.lsrAbsX addr) :=
  fun _ _ _ => ⟨_, .word .lsrAbsX, _, rfl, rfl, rfl⟩

theorem rts : Statement .rts :=
  fun _ _ _ => ⟨_, .plain .rts, _, rfl, rfl, rfl⟩

theorem adcSr (off : Byte) : Statement (.adcSr off) :=
  fun _ _ _ => ⟨_, .byte .adcSr, _, rfl, rfl, rfl⟩

theorem stzDp (off : Byte) : Statement (.stzDp off) :=
  fun _ _ _ => ⟨_, .byte .stzDp, _, rfl, rfl, rfl⟩

theorem adcDp (off : Byte) : Statement (.adcDp off) :=
  fun _ _ _ => ⟨_, .byte .adcDp, _, rfl, rfl, rfl⟩

theorem rorDp (off : Byte) : Statement (.rorDp off) :=
  fun _ _ _ => ⟨_, .byte .rorDp, _, rfl, rfl, rfl⟩

theorem pla : Statement .pla :=
  fun _ _ _ => ⟨_, .plain .pla, _, rfl, rfl, rfl⟩

theorem adcImm (v : Imm) : Statement (.adcImm v) :=
  fun m _ h => ⟨_, .immM .adcImm, v.bytes, rfl, rfl, immediate_length m v h⟩

theorem rorAcc : Statement .rorAcc :=
  fun _ _ _ => ⟨_, .plain .rorAcc, _, rfl, rfl, rfl⟩

theorem rtl : Statement .rtl :=
  fun _ _ _ => ⟨_, .plain .rtl, _, rfl, rfl, rfl⟩

theorem jmpInd (addr : Word) : Statement (.jmpInd addr) :=
  fun _ _ _ => ⟨_, .word .jmpInd, _, rfl, rfl, rfl⟩

theorem adcAbs (addr : Word) : Statement (.adcAbs addr) :=
  fun _ _ _ => ⟨_, .word .adcAbs, _, rfl, rfl, rfl⟩

theorem rorAbs (addr : Word) : Statement (.rorAbs addr) :=
  fun _ _ _ => ⟨_, .word .rorAbs, _, rfl, rfl, rfl⟩

theorem adcLong (addr : Addr) : Statement (.adcLong addr) :=
  fun _ _ _ => ⟨_, .long .adcLong, _, rfl, rfl, rfl⟩

theorem bvs (disp : Byte) : Statement (.bvs disp) :=
  fun _ _ _ => ⟨_, .byte .bvs, _, rfl, rfl, rfl⟩

theorem adcIndY (off : Byte) : Statement (.adcIndY off) :=
  fun _ _ _ => ⟨_, .byte .adcIndY, _, rfl, rfl, rfl⟩

theorem adcInd (off : Byte) : Statement (.adcInd off) :=
  fun _ _ _ => ⟨_, .byte .adcInd, _, rfl, rfl, rfl⟩

theorem stzDpX (off : Byte) : Statement (.stzDpX off) :=
  fun _ _ _ => ⟨_, .byte .stzDpX, _, rfl, rfl, rfl⟩

theorem adcDpX (off : Byte) : Statement (.adcDpX off) :=
  fun _ _ _ => ⟨_, .byte .adcDpX, _, rfl, rfl, rfl⟩

theorem rorDpX (off : Byte) : Statement (.rorDpX off) :=
  fun _ _ _ => ⟨_, .byte .rorDpX, _, rfl, rfl, rfl⟩

theorem sei : Statement .sei :=
  fun _ _ _ => ⟨_, .plain .sei, _, rfl, rfl, rfl⟩

theorem adcAbsY (addr : Word) : Statement (.adcAbsY addr) :=
  fun _ _ _ => ⟨_, .word .adcAbsY, _, rfl, rfl, rfl⟩

theorem ply : Statement .ply :=
  fun _ _ _ => ⟨_, .plain .ply, _, rfl, rfl, rfl⟩

theorem tdc : Statement .tdc :=
  fun _ _ _ => ⟨_, .plain .tdc, _, rfl, rfl, rfl⟩

theorem adcAbsX (addr : Word) : Statement (.adcAbsX addr) :=
  fun _ _ _ => ⟨_, .word .adcAbsX, _, rfl, rfl, rfl⟩

theorem rorAbsX (addr : Word) : Statement (.rorAbsX addr) :=
  fun _ _ _ => ⟨_, .word .rorAbsX, _, rfl, rfl, rfl⟩

theorem bra (disp : Byte) : Statement (.bra disp) :=
  fun _ _ _ => ⟨_, .byte .bra, _, rfl, rfl, rfl⟩

theorem staSr (off : Byte) : Statement (.staSr off) :=
  fun _ _ _ => ⟨_, .byte .staSr, _, rfl, rfl, rfl⟩

theorem styDp (off : Byte) : Statement (.styDp off) :=
  fun _ _ _ => ⟨_, .byte .styDp, _, rfl, rfl, rfl⟩

theorem staDp (off : Byte) : Statement (.staDp off) :=
  fun _ _ _ => ⟨_, .byte .staDp, _, rfl, rfl, rfl⟩

theorem stxDp (off : Byte) : Statement (.stxDp off) :=
  fun _ _ _ => ⟨_, .byte .stxDp, _, rfl, rfl, rfl⟩

theorem dey : Statement .dey :=
  fun _ _ _ => ⟨_, .plain .dey, _, rfl, rfl, rfl⟩

theorem bitImm (v : Imm) : Statement (.bitImm v) :=
  fun m _ h => ⟨_, .immM .bitImm, v.bytes, rfl, rfl, immediate_length m v h⟩

theorem txa : Statement .txa :=
  fun _ _ _ => ⟨_, .plain .txa, _, rfl, rfl, rfl⟩

theorem phb : Statement .phb :=
  fun _ _ _ => ⟨_, .plain .phb, _, rfl, rfl, rfl⟩

theorem styAbs (addr : Word) : Statement (.styAbs addr) :=
  fun _ _ _ => ⟨_, .word .styAbs, _, rfl, rfl, rfl⟩

theorem staAbs (addr : Word) : Statement (.staAbs addr) :=
  fun _ _ _ => ⟨_, .word .staAbs, _, rfl, rfl, rfl⟩

theorem stxAbs (addr : Word) : Statement (.stxAbs addr) :=
  fun _ _ _ => ⟨_, .word .stxAbs, _, rfl, rfl, rfl⟩

theorem staLong (addr : Addr) : Statement (.staLong addr) :=
  fun _ _ _ => ⟨_, .long .staLong, _, rfl, rfl, rfl⟩

theorem bcc (disp : Byte) : Statement (.bcc disp) :=
  fun _ _ _ => ⟨_, .byte .bcc, _, rfl, rfl, rfl⟩

theorem staIndY (off : Byte) : Statement (.staIndY off) :=
  fun _ _ _ => ⟨_, .byte .staIndY, _, rfl, rfl, rfl⟩

theorem staInd (off : Byte) : Statement (.staInd off) :=
  fun _ _ _ => ⟨_, .byte .staInd, _, rfl, rfl, rfl⟩

theorem styDpX (off : Byte) : Statement (.styDpX off) :=
  fun _ _ _ => ⟨_, .byte .styDpX, _, rfl, rfl, rfl⟩

theorem staDpX (off : Byte) : Statement (.staDpX off) :=
  fun _ _ _ => ⟨_, .byte .staDpX, _, rfl, rfl, rfl⟩

theorem stxDpY (off : Byte) : Statement (.stxDpY off) :=
  fun _ _ _ => ⟨_, .byte .stxDpY, _, rfl, rfl, rfl⟩

theorem tya : Statement .tya :=
  fun _ _ _ => ⟨_, .plain .tya, _, rfl, rfl, rfl⟩

theorem staAbsY (addr : Word) : Statement (.staAbsY addr) :=
  fun _ _ _ => ⟨_, .word .staAbsY, _, rfl, rfl, rfl⟩

theorem txs : Statement .txs :=
  fun _ _ _ => ⟨_, .plain .txs, _, rfl, rfl, rfl⟩

theorem txy : Statement .txy :=
  fun _ _ _ => ⟨_, .plain .txy, _, rfl, rfl, rfl⟩

theorem stzAbs (addr : Word) : Statement (.stzAbs addr) :=
  fun _ _ _ => ⟨_, .word .stzAbs, _, rfl, rfl, rfl⟩

theorem staAbsX (addr : Word) : Statement (.staAbsX addr) :=
  fun _ _ _ => ⟨_, .word .staAbsX, _, rfl, rfl, rfl⟩

theorem stzAbsX (addr : Word) : Statement (.stzAbsX addr) :=
  fun _ _ _ => ⟨_, .word .stzAbsX, _, rfl, rfl, rfl⟩

theorem ldyImm (v : Imm) : Statement (.ldyImm v) :=
  fun _ xf h => ⟨_, .immX .ldyImm, v.bytes, rfl, rfl, immediate_length xf v h⟩

theorem ldxImm (v : Imm) : Statement (.ldxImm v) :=
  fun _ xf h => ⟨_, .immX .ldxImm, v.bytes, rfl, rfl, immediate_length xf v h⟩

theorem ldaSr (off : Byte) : Statement (.ldaSr off) :=
  fun _ _ _ => ⟨_, .byte .ldaSr, _, rfl, rfl, rfl⟩

theorem ldyDp (off : Byte) : Statement (.ldyDp off) :=
  fun _ _ _ => ⟨_, .byte .ldyDp, _, rfl, rfl, rfl⟩

theorem ldaDp (off : Byte) : Statement (.ldaDp off) :=
  fun _ _ _ => ⟨_, .byte .ldaDp, _, rfl, rfl, rfl⟩

theorem ldxDp (off : Byte) : Statement (.ldxDp off) :=
  fun _ _ _ => ⟨_, .byte .ldxDp, _, rfl, rfl, rfl⟩

theorem tay : Statement .tay :=
  fun _ _ _ => ⟨_, .plain .tay, _, rfl, rfl, rfl⟩

theorem ldaImm (v : Imm) : Statement (.ldaImm v) :=
  fun m _ h => ⟨_, .immM .ldaImm, v.bytes, rfl, rfl, immediate_length m v h⟩

theorem tax : Statement .tax :=
  fun _ _ _ => ⟨_, .plain .tax, _, rfl, rfl, rfl⟩

theorem plb : Statement .plb :=
  fun _ _ _ => ⟨_, .plain .plb, _, rfl, rfl, rfl⟩

theorem ldyAbs (addr : Word) : Statement (.ldyAbs addr) :=
  fun _ _ _ => ⟨_, .word .ldyAbs, _, rfl, rfl, rfl⟩

theorem ldaAbs (addr : Word) : Statement (.ldaAbs addr) :=
  fun _ _ _ => ⟨_, .word .ldaAbs, _, rfl, rfl, rfl⟩

theorem ldxAbs (addr : Word) : Statement (.ldxAbs addr) :=
  fun _ _ _ => ⟨_, .word .ldxAbs, _, rfl, rfl, rfl⟩

theorem ldaLong (addr : Addr) : Statement (.ldaLong addr) :=
  fun _ _ _ => ⟨_, .long .ldaLong, _, rfl, rfl, rfl⟩

theorem bcs (disp : Byte) : Statement (.bcs disp) :=
  fun _ _ _ => ⟨_, .byte .bcs, _, rfl, rfl, rfl⟩

theorem ldaIndY (off : Byte) : Statement (.ldaIndY off) :=
  fun _ _ _ => ⟨_, .byte .ldaIndY, _, rfl, rfl, rfl⟩

theorem ldaInd (off : Byte) : Statement (.ldaInd off) :=
  fun _ _ _ => ⟨_, .byte .ldaInd, _, rfl, rfl, rfl⟩

theorem ldyDpX (off : Byte) : Statement (.ldyDpX off) :=
  fun _ _ _ => ⟨_, .byte .ldyDpX, _, rfl, rfl, rfl⟩

theorem ldaDpX (off : Byte) : Statement (.ldaDpX off) :=
  fun _ _ _ => ⟨_, .byte .ldaDpX, _, rfl, rfl, rfl⟩

theorem ldxDpY (off : Byte) : Statement (.ldxDpY off) :=
  fun _ _ _ => ⟨_, .byte .ldxDpY, _, rfl, rfl, rfl⟩

theorem clv : Statement .clv :=
  fun _ _ _ => ⟨_, .plain .clv, _, rfl, rfl, rfl⟩

theorem ldaAbsY (addr : Word) : Statement (.ldaAbsY addr) :=
  fun _ _ _ => ⟨_, .word .ldaAbsY, _, rfl, rfl, rfl⟩

theorem tsx : Statement .tsx :=
  fun _ _ _ => ⟨_, .plain .tsx, _, rfl, rfl, rfl⟩

theorem tyx : Statement .tyx :=
  fun _ _ _ => ⟨_, .plain .tyx, _, rfl, rfl, rfl⟩

theorem ldyAbsX (addr : Word) : Statement (.ldyAbsX addr) :=
  fun _ _ _ => ⟨_, .word .ldyAbsX, _, rfl, rfl, rfl⟩

theorem ldaAbsX (addr : Word) : Statement (.ldaAbsX addr) :=
  fun _ _ _ => ⟨_, .word .ldaAbsX, _, rfl, rfl, rfl⟩

theorem ldxAbsY (addr : Word) : Statement (.ldxAbsY addr) :=
  fun _ _ _ => ⟨_, .word .ldxAbsY, _, rfl, rfl, rfl⟩

theorem cpyImm (v : Imm) : Statement (.cpyImm v) :=
  fun _ xf h => ⟨_, .immX .cpyImm, v.bytes, rfl, rfl, immediate_length xf v h⟩

theorem rep (mask : Byte) : Statement (.rep mask) :=
  fun _ _ _ => ⟨_, .byte .rep, _, rfl, rfl, rfl⟩

theorem cmpSr (off : Byte) : Statement (.cmpSr off) :=
  fun _ _ _ => ⟨_, .byte .cmpSr, _, rfl, rfl, rfl⟩

theorem cpyDp (off : Byte) : Statement (.cpyDp off) :=
  fun _ _ _ => ⟨_, .byte .cpyDp, _, rfl, rfl, rfl⟩

theorem cmpDp (off : Byte) : Statement (.cmpDp off) :=
  fun _ _ _ => ⟨_, .byte .cmpDp, _, rfl, rfl, rfl⟩

theorem decDp (off : Byte) : Statement (.decDp off) :=
  fun _ _ _ => ⟨_, .byte .decDp, _, rfl, rfl, rfl⟩

theorem iny : Statement .iny :=
  fun _ _ _ => ⟨_, .plain .iny, _, rfl, rfl, rfl⟩

theorem cmpImm (v : Imm) : Statement (.cmpImm v) :=
  fun m _ h => ⟨_, .immM .cmpImm, v.bytes, rfl, rfl, immediate_length m v h⟩

theorem dex : Statement .dex :=
  fun _ _ _ => ⟨_, .plain .dex, _, rfl, rfl, rfl⟩

theorem cpyAbs (addr : Word) : Statement (.cpyAbs addr) :=
  fun _ _ _ => ⟨_, .word .cpyAbs, _, rfl, rfl, rfl⟩

theorem cmpAbs (addr : Word) : Statement (.cmpAbs addr) :=
  fun _ _ _ => ⟨_, .word .cmpAbs, _, rfl, rfl, rfl⟩

theorem decAbs (addr : Word) : Statement (.decAbs addr) :=
  fun _ _ _ => ⟨_, .word .decAbs, _, rfl, rfl, rfl⟩

theorem cmpLong (addr : Addr) : Statement (.cmpLong addr) :=
  fun _ _ _ => ⟨_, .long .cmpLong, _, rfl, rfl, rfl⟩

theorem bne (disp : Byte) : Statement (.bne disp) :=
  fun _ _ _ => ⟨_, .byte .bne, _, rfl, rfl, rfl⟩

theorem cmpIndY (off : Byte) : Statement (.cmpIndY off) :=
  fun _ _ _ => ⟨_, .byte .cmpIndY, _, rfl, rfl, rfl⟩

theorem cmpInd (off : Byte) : Statement (.cmpInd off) :=
  fun _ _ _ => ⟨_, .byte .cmpInd, _, rfl, rfl, rfl⟩

theorem cmpDpX (off : Byte) : Statement (.cmpDpX off) :=
  fun _ _ _ => ⟨_, .byte .cmpDpX, _, rfl, rfl, rfl⟩

theorem decDpX (off : Byte) : Statement (.decDpX off) :=
  fun _ _ _ => ⟨_, .byte .decDpX, _, rfl, rfl, rfl⟩

theorem cld : Statement .cld :=
  fun _ _ _ => ⟨_, .plain .cld, _, rfl, rfl, rfl⟩

theorem cmpAbsY (addr : Word) : Statement (.cmpAbsY addr) :=
  fun _ _ _ => ⟨_, .word .cmpAbsY, _, rfl, rfl, rfl⟩

theorem phx : Statement .phx :=
  fun _ _ _ => ⟨_, .plain .phx, _, rfl, rfl, rfl⟩

theorem cmpAbsX (addr : Word) : Statement (.cmpAbsX addr) :=
  fun _ _ _ => ⟨_, .word .cmpAbsX, _, rfl, rfl, rfl⟩

theorem decAbsX (addr : Word) : Statement (.decAbsX addr) :=
  fun _ _ _ => ⟨_, .word .decAbsX, _, rfl, rfl, rfl⟩

theorem cpxImm (v : Imm) : Statement (.cpxImm v) :=
  fun _ xf h => ⟨_, .immX .cpxImm, v.bytes, rfl, rfl, immediate_length xf v h⟩

theorem sep (mask : Byte) : Statement (.sep mask) :=
  fun _ _ _ => ⟨_, .byte .sep, _, rfl, rfl, rfl⟩

theorem sbcSr (off : Byte) : Statement (.sbcSr off) :=
  fun _ _ _ => ⟨_, .byte .sbcSr, _, rfl, rfl, rfl⟩

theorem cpxDp (off : Byte) : Statement (.cpxDp off) :=
  fun _ _ _ => ⟨_, .byte .cpxDp, _, rfl, rfl, rfl⟩

theorem sbcDp (off : Byte) : Statement (.sbcDp off) :=
  fun _ _ _ => ⟨_, .byte .sbcDp, _, rfl, rfl, rfl⟩

theorem incDp (off : Byte) : Statement (.incDp off) :=
  fun _ _ _ => ⟨_, .byte .incDp, _, rfl, rfl, rfl⟩

theorem inx : Statement .inx :=
  fun _ _ _ => ⟨_, .plain .inx, _, rfl, rfl, rfl⟩

theorem sbcImm (v : Imm) : Statement (.sbcImm v) :=
  fun m _ h => ⟨_, .immM .sbcImm, v.bytes, rfl, rfl, immediate_length m v h⟩

theorem nop : Statement .nop :=
  fun _ _ _ => ⟨_, .plain .nop, _, rfl, rfl, rfl⟩

theorem xba : Statement .xba :=
  fun _ _ _ => ⟨_, .plain .xba, _, rfl, rfl, rfl⟩

theorem cpxAbs (addr : Word) : Statement (.cpxAbs addr) :=
  fun _ _ _ => ⟨_, .word .cpxAbs, _, rfl, rfl, rfl⟩

theorem sbcAbs (addr : Word) : Statement (.sbcAbs addr) :=
  fun _ _ _ => ⟨_, .word .sbcAbs, _, rfl, rfl, rfl⟩

theorem incAbs (addr : Word) : Statement (.incAbs addr) :=
  fun _ _ _ => ⟨_, .word .incAbs, _, rfl, rfl, rfl⟩

theorem sbcLong (addr : Addr) : Statement (.sbcLong addr) :=
  fun _ _ _ => ⟨_, .long .sbcLong, _, rfl, rfl, rfl⟩

theorem beq (disp : Byte) : Statement (.beq disp) :=
  fun _ _ _ => ⟨_, .byte .beq, _, rfl, rfl, rfl⟩

theorem sbcIndY (off : Byte) : Statement (.sbcIndY off) :=
  fun _ _ _ => ⟨_, .byte .sbcIndY, _, rfl, rfl, rfl⟩

theorem sbcInd (off : Byte) : Statement (.sbcInd off) :=
  fun _ _ _ => ⟨_, .byte .sbcInd, _, rfl, rfl, rfl⟩

theorem sbcDpX (off : Byte) : Statement (.sbcDpX off) :=
  fun _ _ _ => ⟨_, .byte .sbcDpX, _, rfl, rfl, rfl⟩

theorem incDpX (off : Byte) : Statement (.incDpX off) :=
  fun _ _ _ => ⟨_, .byte .incDpX, _, rfl, rfl, rfl⟩

theorem sed : Statement .sed :=
  fun _ _ _ => ⟨_, .plain .sed, _, rfl, rfl, rfl⟩

theorem sbcAbsY (addr : Word) : Statement (.sbcAbsY addr) :=
  fun _ _ _ => ⟨_, .word .sbcAbsY, _, rfl, rfl, rfl⟩

theorem plx : Statement .plx :=
  fun _ _ _ => ⟨_, .plain .plx, _, rfl, rfl, rfl⟩

theorem xce : Statement .xce :=
  fun _ _ _ => ⟨_, .plain .xce, _, rfl, rfl, rfl⟩

theorem sbcAbsX (addr : Word) : Statement (.sbcAbsX addr) :=
  fun _ _ _ => ⟨_, .word .sbcAbsX, _, rfl, rfl, rfl⟩

theorem incAbsX (addr : Word) : Statement (.incAbsX addr) :=
  fun _ _ _ => ⟨_, .word .incAbsX, _, rfl, rfl, rfl⟩

end Sys2Proof.Laws.EncodedShape
end

