-- ==== Sys2Proof/Tests/Slice0.lean ====
section
/-! SUPPORT. Tests: the smoke test of WellFormed, decoding of words written from spec/opcode_table.json and
30_encoding.md R92, single steps with the outcomes of the spec's own examples, and for every obligation with
hypotheses a state and operands that meet them all. -/

namespace Sys2Proof.Tests

open Sys2Proof Sys2Proof.Machine

/-! ### WellFormed -/

/-- An `IMM_M` operand of the other width than M selects is refused, both ways. -/
theorem test_illFormed_accumulator_immediate :
    WellFormed true true (.ldaImm (.word 0x1234)) = false ∧ WellFormed false true (.ldaImm (.byte 0x12)) = false := by
  decide

/-- An `IMM_X` operand of the other width than XF selects is refused, both ways. -/
theorem test_illFormed_index_immediate :
    WellFormed true true (.cpyImm (.word 0x1234)) = false ∧ WellFormed true false (.ldxImm (.byte 0x12)) = false := by
  decide

/-! ### Decoding: words from the opcode table -/

/-- Every word of the list decodes to the instruction beside it, with no byte left over. -/
def readsAll (m xf : Bool) (rows : List (List Byte × Instr)) : Bool :=
  rows.all fun r => decide (decode m xf r.1 = .instr r.2 [])

theorem test_decode_row_0 : readsAll true true
    [([0x00, 0x9A], .brk 0x9A), ([0x03, 0x9A], .oraSr 0x9A), ([0x04, 0x9A], .tsbDp 0x9A),
     ([0x05, 0x9A], .oraDp 0x9A), ([0x06, 0x9A], .aslDp 0x9A), ([0x08], .php),
     ([0x09, 0x9A], .oraImm (.byte 0x9A)), ([0x0A], .aslAcc), ([0x0B], .phd),
     ([0x0C, 0x34, 0x12], .tsbAbs 0x1234), ([0x0D, 0x34, 0x12], .oraAbs 0x1234),
     ([0x0E, 0x34, 0x12], .aslAbs 0x1234), ([0x0F, 0x34, 0x12, 0x7E], .oraLong 0x7E1234)] = true := by decide

theorem test_decode_row_1 : readsAll true true
    [([0x10, 0x9A], .bpl 0x9A), ([0x11, 0x9A], .oraIndY 0x9A), ([0x12, 0x9A], .oraInd 0x9A),
     ([0x14, 0x9A], .trbDp 0x9A), ([0x15, 0x9A], .oraDpX 0x9A), ([0x16, 0x9A], .aslDpX 0x9A), ([0x18], .clc),
     ([0x19, 0x34, 0x12], .oraAbsY 0x1234), ([0x1A], .incAcc), ([0x1B], .tcs),
     ([0x1C, 0x34, 0x12], .trbAbs 0x1234), ([0x1D, 0x34, 0x12], .oraAbsX 0x1234),
     ([0x1E, 0x34, 0x12], .aslAbsX 0x1234)] = true := by decide

theorem test_decode_row_2 : readsAll true true
    [([0x20, 0x34, 0x12], .jsr 0x1234), ([0x22, 0x34, 0x12, 0x7E], .jsl 0x7E1234),
     ([0x23, 0x9A], .andSr 0x9A), ([0x24, 0x9A], .bitDp 0x9A), ([0x25, 0x9A], .andDp 0x9A),
     ([0x26, 0x9A], .rolDp 0x9A), ([0x28], .plp), ([0x29, 0x9A], .andImm (.byte 0x9A)), ([0x2A], .rolAcc),
     ([0x2B], .pld), ([0x2C, 0x34, 0x12], .bitAbs 0x1234), ([0x2D, 0x34, 0x12], .andAbs 0x1234),
     ([0x2E, 0x34, 0x12], .rolAbs 0x1234), ([0x2F, 0x34, 0x12, 0x7E], .andLong 0x7E1234)] = true := by decide

theorem test_decode_row_3 : readsAll true true
    [([0x30, 0x9A], .bmi 0x9A), ([0x31, 0x9A], .andIndY 0x9A), ([0x32, 0x9A], .andInd 0x9A),
     ([0x34, 0x9A], .bitDpX 0x9A), ([0x35, 0x9A], .andDpX 0x9A), ([0x36, 0x9A], .rolDpX 0x9A),
     ([0x38], .sec), ([0x39, 0x34, 0x12], .andAbsY 0x1234), ([0x3A], .decAcc), ([0x3B], .tsc),
     ([0x3C, 0x34, 0x12], .bitAbsX 0x1234), ([0x3D, 0x34, 0x12], .andAbsX 0x1234),
     ([0x3E, 0x34, 0x12], .rolAbsX 0x1234)] = true := by decide

theorem test_decode_row_4 : readsAll true true
    [([0x40], .rti), ([0x43, 0x9A], .eorSr 0x9A), ([0x44, 0x7F, 0x7E], .mvp 0x7F 0x7E),
     ([0x45, 0x9A], .eorDp 0x9A), ([0x46, 0x9A], .lsrDp 0x9A), ([0x48], .pha),
     ([0x49, 0x9A], .eorImm (.byte 0x9A)), ([0x4A], .lsrAcc), ([0x4B], .phk),
     ([0x4C, 0x34, 0x12], .jmpAbs 0x1234), ([0x4D, 0x34, 0x12], .eorAbs 0x1234),
     ([0x4E, 0x34, 0x12], .lsrAbs 0x1234), ([0x4F, 0x34, 0x12, 0x7E], .eorLong 0x7E1234)] = true := by decide

theorem test_decode_row_5 : readsAll true true
    [([0x50, 0x9A], .bvc 0x9A), ([0x51, 0x9A], .eorIndY 0x9A), ([0x52, 0x9A], .eorInd 0x9A),
     ([0x54, 0x7F, 0x7E], .mvn 0x7F 0x7E), ([0x55, 0x9A], .eorDpX 0x9A), ([0x56, 0x9A], .lsrDpX 0x9A),
     ([0x58], .cli), ([0x59, 0x34, 0x12], .eorAbsY 0x1234), ([0x5A], .phy), ([0x5B], .tcd),
     ([0x5C, 0x34, 0x12, 0x7E], .jml 0x7E1234), ([0x5D, 0x34, 0x12], .eorAbsX 0x1234),
     ([0x5E, 0x34, 0x12], .lsrAbsX 0x1234)] = true := by decide

theorem test_decode_row_6 : readsAll true true
    [([0x60], .rts), ([0x63, 0x9A], .adcSr 0x9A), ([0x64, 0x9A], .stzDp 0x9A), ([0x65, 0x9A], .adcDp 0x9A),
     ([0x66, 0x9A], .rorDp 0x9A), ([0x68], .pla), ([0x69, 0x9A], .adcImm (.byte 0x9A)), ([0x6A], .rorAcc),
     ([0x6B], .rtl), ([0x6C, 0x34, 0x12], .jmpInd 0x1234), ([0x6D, 0x34, 0x12], .adcAbs 0x1234),
     ([0x6E, 0x34, 0x12], .rorAbs 0x1234), ([0x6F, 0x34, 0x12, 0x7E], .adcLong 0x7E1234)] = true := by decide

theorem test_decode_row_7 : readsAll true true
    [([0x70, 0x9A], .bvs 0x9A), ([0x71, 0x9A], .adcIndY 0x9A), ([0x72, 0x9A], .adcInd 0x9A),
     ([0x74, 0x9A], .stzDpX 0x9A), ([0x75, 0x9A], .adcDpX 0x9A), ([0x76, 0x9A], .rorDpX 0x9A),
     ([0x78], .sei), ([0x79, 0x34, 0x12], .adcAbsY 0x1234), ([0x7A], .ply), ([0x7B], .tdc),
     ([0x7D, 0x34, 0x12], .adcAbsX 0x1234), ([0x7E, 0x34, 0x12], .rorAbsX 0x1234)] = true := by decide

theorem test_decode_row_8 : readsAll true true
    [([0x80, 0x9A], .bra 0x9A), ([0x83, 0x9A], .staSr 0x9A), ([0x84, 0x9A], .styDp 0x9A),
     ([0x85, 0x9A], .staDp 0x9A), ([0x86, 0x9A], .stxDp 0x9A), ([0x88], .dey),
     ([0x89, 0x9A], .bitImm (.byte 0x9A)), ([0x8A], .txa), ([0x8B], .phb),
     ([0x8C, 0x34, 0x12], .styAbs 0x1234), ([0x8D, 0x34, 0x12], .staAbs 0x1234),
     ([0x8E, 0x34, 0x12], .stxAbs 0x1234), ([0x8F, 0x34, 0x12, 0x7E], .staLong 0x7E1234)] = true := by decide

theorem test_decode_row_9 : readsAll true true
    [([0x90, 0x9A], .bcc 0x9A), ([0x91, 0x9A], .staIndY 0x9A), ([0x92, 0x9A], .staInd 0x9A),
     ([0x94, 0x9A], .styDpX 0x9A), ([0x95, 0x9A], .staDpX 0x9A), ([0x96, 0x9A], .stxDpY 0x9A),
     ([0x98], .tya), ([0x99, 0x34, 0x12], .staAbsY 0x1234), ([0x9A], .txs), ([0x9B], .txy),
     ([0x9C, 0x34, 0x12], .stzAbs 0x1234), ([0x9D, 0x34, 0x12], .staAbsX 0x1234),
     ([0x9E, 0x34, 0x12], .stzAbsX 0x1234)] = true := by decide

theorem test_decode_row_A : readsAll true true
    [([0xA0, 0x9A], .ldyImm (.byte 0x9A)), ([0xA2, 0x9A], .ldxImm (.byte 0x9A)), ([0xA3, 0x9A], .ldaSr 0x9A),
     ([0xA4, 0x9A], .ldyDp 0x9A), ([0xA5, 0x9A], .ldaDp 0x9A), ([0xA6, 0x9A], .ldxDp 0x9A), ([0xA8], .tay),
     ([0xA9, 0x9A], .ldaImm (.byte 0x9A)), ([0xAA], .tax), ([0xAB], .plb),
     ([0xAC, 0x34, 0x12], .ldyAbs 0x1234), ([0xAD, 0x34, 0x12], .ldaAbs 0x1234),
     ([0xAE, 0x34, 0x12], .ldxAbs 0x1234), ([0xAF, 0x34, 0x12, 0x7E], .ldaLong 0x7E1234)] = true := by decide

theorem test_decode_row_B : readsAll true true
    [([0xB0, 0x9A], .bcs 0x9A), ([0xB1, 0x9A], .ldaIndY 0x9A), ([0xB2, 0x9A], .ldaInd 0x9A),
     ([0xB4, 0x9A], .ldyDpX 0x9A), ([0xB5, 0x9A], .ldaDpX 0x9A), ([0xB6, 0x9A], .ldxDpY 0x9A),
     ([0xB8], .clv), ([0xB9, 0x34, 0x12], .ldaAbsY 0x1234), ([0xBA], .tsx), ([0xBB], .tyx),
     ([0xBC, 0x34, 0x12], .ldyAbsX 0x1234), ([0xBD, 0x34, 0x12], .ldaAbsX 0x1234),
     ([0xBE, 0x34, 0x12], .ldxAbsY 0x1234)] = true := by decide

theorem test_decode_row_C : readsAll true true
    [([0xC0, 0x9A], .cpyImm (.byte 0x9A)), ([0xC2, 0x9A], .rep 0x9A), ([0xC3, 0x9A], .cmpSr 0x9A),
     ([0xC4, 0x9A], .cpyDp 0x9A), ([0xC5, 0x9A], .cmpDp 0x9A), ([0xC6, 0x9A], .decDp 0x9A), ([0xC8], .iny),
     ([0xC9, 0x9A], .cmpImm (.byte 0x9A)), ([0xCA], .dex), ([0xCC, 0x34, 0x12], .cpyAbs 0x1234),
     ([0xCD, 0x34, 0x12], .cmpAbs 0x1234), ([0xCE, 0x34, 0x12], .decAbs 0x1234),
     ([0xCF, 0x34, 0x12, 0x7E], .cmpLong 0x7E1234)] = true := by decide

theorem test_decode_row_D : readsAll true true
    [([0xD0, 0x9A], .bne 0x9A), ([0xD1, 0x9A], .cmpIndY 0x9A), ([0xD2, 0x9A], .cmpInd 0x9A),
     ([0xD5, 0x9A], .cmpDpX 0x9A), ([0xD6, 0x9A], .decDpX 0x9A), ([0xD8], .cld),
     ([0xD9, 0x34, 0x12], .cmpAbsY 0x1234), ([0xDA], .phx), ([0xDD, 0x34, 0x12], .cmpAbsX 0x1234),
     ([0xDE, 0x34, 0x12], .decAbsX 0x1234)] = true := by decide

theorem test_decode_row_E : readsAll true true
    [([0xE0, 0x9A], .cpxImm (.byte 0x9A)), ([0xE2, 0x9A], .sep 0x9A), ([0xE3, 0x9A], .sbcSr 0x9A),
     ([0xE4, 0x9A], .cpxDp 0x9A), ([0xE5, 0x9A], .sbcDp 0x9A), ([0xE6, 0x9A], .incDp 0x9A), ([0xE8], .inx),
     ([0xE9, 0x9A], .sbcImm (.byte 0x9A)), ([0xEA], .nop), ([0xEB], .xba),
     ([0xEC, 0x34, 0x12], .cpxAbs 0x1234), ([0xED, 0x34, 0x12], .sbcAbs 0x1234),
     ([0xEE, 0x34, 0x12], .incAbs 0x1234), ([0xEF, 0x34, 0x12, 0x7E], .sbcLong 0x7E1234)] = true := by decide

theorem test_decode_row_F : readsAll true true
    [([0xF0, 0x9A], .beq 0x9A), ([0xF1, 0x9A], .sbcIndY 0x9A), ([0xF2, 0x9A], .sbcInd 0x9A),
     ([0xF5, 0x9A], .sbcDpX 0x9A), ([0xF6, 0x9A], .incDpX 0x9A), ([0xF8], .sed),
     ([0xF9, 0x34, 0x12], .sbcAbsY 0x1234), ([0xFA], .plx), ([0xFB], .xce),
     ([0xFD, 0x34, 0x12], .sbcAbsX 0x1234), ([0xFE, 0x34, 0x12], .incAbsX 0x1234)] = true := by decide

/-- `IMM_M` at M = 0, whatever XF is. -/
theorem test_decode_wide_accumulator : readsAll false true
    [([0x09, 0x34, 0x12], .oraImm (.word 0x1234)), ([0x29, 0x34, 0x12], .andImm (.word 0x1234)),
     ([0x49, 0x34, 0x12], .eorImm (.word 0x1234)), ([0x69, 0x34, 0x12], .adcImm (.word 0x1234)),
     ([0x89, 0x34, 0x12], .bitImm (.word 0x1234)), ([0xA9, 0x34, 0x12], .ldaImm (.word 0x1234)),
     ([0xC9, 0x34, 0x12], .cmpImm (.word 0x1234)), ([0xE9, 0x34, 0x12], .sbcImm (.word 0x1234))] = true := by decide

/-- `IMM_X` at XF = 0, whatever M is. -/
theorem test_decode_wide_index : readsAll true false
    [([0xA0, 0x34, 0x12], .ldyImm (.word 0x1234)), ([0xA2, 0x34, 0x12], .ldxImm (.word 0x1234)),
     ([0xC0, 0x34, 0x12], .cpyImm (.word 0x1234)), ([0xE0, 0x34, 0x12], .cpxImm (.word 0x1234))] = true := by decide

theorem test_decode_refuses :
    decode true true [0x02, 0x00] = .unimplemented 0x02 ∧ decode true true [0xAD, 0x34] = .truncated 0xAD ∧
    decode true true [] = .noBytes := by decide

theorem test_table_words :
    decodeTableWord 8 0xE8 = some .inx ∧ decodeTableWord 16 0x1210 = some (.bpl 0x12) ∧
    decodeTableWord 8 0x5C = some (.jml 0) ∧ decodeTableWord 8 0x42 = none := by decide

/-! ### Single steps -/

/-- The start of the spec's examples (41_binary_read.md R140): native mode, M = XF = I = 1, other flags 0,
S = 0x01FF, the code at 0x008000. -/
def native (code : List Byte) : State :=
  { State.reset with
    ilatch := none, regs.pc := 0x8000, regs.s := 0x01FF, flags.e := false
    mem := Memory.placeBytes 0x00 0x8000 code [] }

/-- The same in emulation mode. -/
def emulation (code : List Byte) : State := { native code with flags.e := true }

/-- The same in native mode with M = XF = 0. -/
def wide (code : List Byte) : State := { native code with flags.m := false, flags.xf := false }

/-- The same with the code elsewhere. -/
def codeAt (s : State) (bank : Byte) (pc : Word) (code : List Byte) : State :=
  { s with regs.pbr := bank, regs.pc := pc, mem := Memory.placeBytes bank pc code s.mem }

/-- The same with these bytes in memory. -/
def holding (s : State) (cells : List (Addr × Byte)) : State :=
  { s with mem := cells.foldl (fun mem c => mem.write c.1 c.2) s.mem }

/-- An outcome is a next state that passes the check. -/
def passes (o : Host.Outcome State Fault Refusal) (check : State → Bool) : Bool :=
  match o with
  | .next t => check t
  | _ => false

/-- One step from `s` gives a next state that passes the check. -/
def stepsTo (s : State) (check : State → Bool) : Bool := passes (step s) check

/-- One step from `s` returns an error that passes the check, with the state the step leaves. -/
def failsTo (s : State) (check : FaultRecord → State → Bool) : Bool :=
  match step s with
  | .fault (.unimplementedOpcode error after) => check error after
  | _ => false

/-- What a passed check says. -/
theorem next_of_passes (o : Host.Outcome State Fault Refusal) (check : State → Bool) (h : passes o check = true) :
    ∃ t, o = .next t ∧ check t = true := by
  cases o with
  | next t => exact ⟨t, rfl, h⟩
  | fault r => cases h
  | refused r => cases h


/-! 41_binary_read.md -/

theorem test_ora : stepsTo { native [0x09, 0x80] with regs.a := 0x0001 }
    (fun t => t.regs.a == 0x0081 && t.flags.n && t.log == [.read 0x008000 0x09, .read 0x008001 0x80]) = true := by
  decide
theorem test_and_keeps_high_byte : stepsTo { native [0x29, 0x0F] with regs.a := 0x123C }
    (fun t => t.regs.a == 0x120C && !t.flags.n && !t.flags.z) = true := by decide
theorem test_eor : stepsTo { native [0x49, 0xFF] with regs.a := 0x00FF }
    (fun t => t.regs.a == 0x0000 && t.flags.z) = true := by decide
theorem test_adc_overflow : stepsTo { native [0x69, 0x01] with regs.a := 0x007F }
    (fun t => t.regs.a == 0x0080 && t.flags.n && t.flags.v && !t.flags.c) = true := by decide
theorem test_adc_wide_carry : stepsTo { wide [0x69, 0xFF, 0xFF] with regs.a := 0x0001, flags.c := true }
    (fun t => t.regs.a == 0x0001 && t.flags.c && !t.flags.v && t.regs.pc == 0x8003) = true := by decide
theorem test_sbc_overflow : stepsTo { native [0xE9, 0x01] with regs.a := 0x0080, flags.c := true }
    (fun t => t.regs.a == 0x007F && t.flags.v && t.flags.c && !t.flags.n) = true := by decide
theorem test_sbc_borrow : stepsTo { native [0xE9, 0x01] with regs.a := 0x0000, flags.c := true }
    (fun t => t.regs.a == 0x00FF && !t.flags.c && t.flags.n && !t.flags.v) = true := by decide
/-- R151: 0x58 + 0x46 + 1 = 0x05, C = 1, V = 1; 0x0F + 0x0F = 0x14, C = 0. -/
theorem test_decimal_add : adcSum true .w8 0x58 0x46 true = { value := 0x05, v := true, c := true } ∧
    (adcSum true .w8 0x0F 0x0F false).value = 0x14 ∧ (adcSum true .w16 0x5678 0x1234 false).value = 0x6912 := by
  decide
/-- R152: 0x10 - 0x01 = 0x09, C = 1; 0x00 - 0x01 - 1 = 0x98, C = 0; 0x1000 - 0x0001 = 0x0999, C = 1. -/
theorem test_decimal_subtract : (sbcSum true .w8 0x10 0x01 true).value = 0x09 ∧
    (sbcSum true .w8 0x00 0x01 false).value = 0x98 ∧ (sbcSum true .w8 0x00 0x01 false).c = false ∧
    (sbcSum true .w16 0x1000 0x0001 true).value = 0x0999 := by decide
theorem test_cmp : stepsTo { native [0xC9, 0x11] with regs.a := 0x0010 }
    (fun t => t.flags.n && !t.flags.c && !t.flags.z && t.regs.a == 0x0010) = true := by decide
theorem test_cpx_wide : stepsTo { wide [0xE0, 0x00, 0x01] with regs.x := 0x00FF }
    (fun t => t.flags.n && !t.flags.c && t.log.length == 3) = true := by decide
theorem test_cpy : stepsTo { native [0xC0, 0x05] with regs.y := 0x0005 }
    (fun t => t.flags.z && t.flags.c && !t.flags.n) = true := by decide
theorem test_bit_memory : stepsTo (holding { native [0x24, 0x10] with regs.a := 0x0001 } [(0x000010, 0xC0)])
    (fun t => t.flags.n && t.flags.v && t.flags.z) = true := by decide
theorem test_bit_immediate : stepsTo { native [0x89, 0xC0] with regs.a := 0x0001 }
    (fun t => t.flags.z && !t.flags.n && !t.flags.v) = true := by decide

/-! 40_addressing_modes.md and 42_move_load.md -/

theorem test_lda_immediate : stepsTo { native [0xA9, 0x00] with regs.a := 0x1234 }
    (fun t => t.regs.a == 0x1200 && t.flags.z) = true := by decide
theorem test_lda_long_wraps : stepsTo (holding (wide [0xAF, 0xFF, 0xFF, 0xFF]) [(0xFFFFFF, 0xCD), (0x000000, 0xAB)])
    (fun t => t.regs.a == 0xABCD && t.flags.n) = true := by decide
theorem test_lda_absolute_carries_into_bank :
    stepsTo (holding { wide [0xAD, 0xFF, 0xFF] with regs.dbr := 0x12 } [(0x12FFFF, 0x11), (0x130000, 0x22)])
      (fun t => t.regs.a == 0x2211) = true := by decide
theorem test_lda_indirect_indexed :
    stepsTo (holding { native [0xB1, 0x10] with regs.y := 0x0010, regs.dbr := 0x7E }
        [(0x000010, 0xF8), (0x000011, 0x12), (0x7E1308, 0x5A)])
      (fun t => t.regs.a == 0x005A && t.log.drop 4 == [.read 0x7E1208 0x00, .read 0x7E1308 0x5A]) = true := by decide
theorem test_lda_indirect_page_wrap : stepsTo (holding (emulation [0xB2, 0xFF]) [(0x0000FF, 0x34), (0x000000, 0x12)])
    (fun t => t.log.drop 2 == [.read 0x0000FF 0x34, .read 0x000000 0x12, .read 0x001234 0x00]) = true := by decide
theorem test_lda_stack_relative : stepsTo { native [0xA3, 0x03] with regs.s := 0x01F0 }
    (fun t => t.log.drop 2 == [.idle, .read 0x0001F3 0x00]) = true := by decide
theorem test_lda_direct_indexed : stepsTo { native [0xB5, 0x10] with regs.x := 0x0004, regs.d := 0x0001 }
    (fun t => t.log.drop 2 == [.idle, .read 0x000011 0x00, .read 0x000015 0x00]) = true := by decide
theorem test_lda_absolute_indexed : stepsTo { native [0xBD, 0xF0, 0x12] with regs.x := 0x0020, regs.dbr := 0x7E }
    (fun t => t.log.drop 3 == [.read 0x7E1210 0x00, .read 0x7E1310 0x00]) = true := by decide
theorem test_ldx_direct_indexed :
    stepsTo (holding { wide [0xB6, 0x10] with regs.y := 0x0102 } [(0x000112, 0x34), (0x000113, 0x12)])
      (fun t => t.regs.x == 0x1234 && t.log.drop 2 ==
        [.read 0x000010 0x00, .read 0x000112 0x34, .read 0x000113 0x12]) = true := by decide
theorem test_ldy_wide : stepsTo { wide [0xA0, 0x00, 0x00] with regs.y := 0x1234 }
    (fun t => t.regs.y == 0x0000 && t.flags.z) = true := by decide
theorem test_sta_indexed : stepsTo { native [0x9D, 0xF0, 0x12] with regs.a := 0xAB42, regs.x := 5, regs.dbr := 0x7E }
    (fun t => t.log.drop 3 == [.read 0x7E12F5 0x00, .write 0x7E12F5 0x42] && t.mem.read 0x7E12F5 == 0x42) = true := by
  decide
theorem test_sta_wide : stepsTo { wide [0x8D, 0x34, 0x12] with regs.a := 0xAB42, regs.dbr := 0x7E }
    (fun t => t.log.drop 3 == [.write 0x7E1234 0x42, .write 0x7E1235 0xAB]) = true := by decide
theorem test_stx : stepsTo { native [0x96, 0x10] with regs.x := 0x0099, regs.y := 0x0002 }
    (fun t => t.log.drop 2 == [.read 0x000010 0x00, .write 0x000012 0x99]) = true := by decide
theorem test_sty_wide : stepsTo { wide [0x8C, 0x34, 0x12] with regs.y := 0xBEEF }
    (fun t => t.mem.read 0x001234 == 0xEF && t.mem.read 0x001235 == 0xBE) = true := by decide
theorem test_stz_wide : stepsTo (holding { wide [0x74, 0x10] with regs.x := 2 } [(0x000012, 0x55), (0x000013, 0x66)])
    (fun t => t.mem.read 0x000012 == 0x00 && t.mem.read 0x000013 == 0x00 && t.mem.wf) = true := by decide
theorem test_tax_reads_all_of_A : stepsTo { native [0xAA] with regs.a := 0x8034, flags.xf := false }
    (fun t => t.regs.x == 0x8034 && t.flags.n) = true := by decide
theorem test_tay : stepsTo { native [0xA8] with regs.a := 0x1200 }
    (fun t => t.regs.y == 0x0000 && t.flags.z) = true := by decide
theorem test_txa_keeps_high_byte : stepsTo { native [0x8A] with regs.a := 0x1234, regs.x := 0x0080 }
    (fun t => t.regs.a == 0x1280 && t.flags.n) = true := by decide
theorem test_tya_wide : stepsTo { wide [0x98] with regs.a := 0x1234 }
    (fun t => t.regs.a == 0x0000 && t.flags.z) = true := by decide
theorem test_txs_emulation : stepsTo { emulation [0x9A] with regs.x := 0x0042 }
    (fun t => t.regs.s == 0x0142 && t.flags == (emulation []).flags) = true := by decide
theorem test_txs_native : stepsTo { native [0x9A] with regs.x := 0x0042 } (fun t => t.regs.s == 0x0042) = true := by
  decide
theorem test_tsx : stepsTo { native [0xBA] with regs.s := 0x0180 }
    (fun t => t.regs.x == 0x0080 && t.flags.n) = true := by decide
theorem test_txy : stepsTo { native [0x9B] with regs.y := 0x0011 }
    (fun t => t.regs.y == 0x0000 && t.flags.z) = true := by decide
theorem test_tyx : stepsTo { wide [0xBB] with regs.y := 0x8001 }
    (fun t => t.regs.x == 0x8001 && t.flags.n) = true := by decide
theorem test_tcd : stepsTo { native [0x5B] with regs.a := 0x8000 }
    (fun t => t.regs.d == 0x8000 && t.flags.n && !t.flags.z) = true := by decide
theorem test_tdc : stepsTo { native [0x7B] with regs.a := 0x1111 }
    (fun t => t.regs.a == 0x0000 && t.flags.z) = true := by decide
theorem test_tcs : stepsTo { emulation [0x1B] with regs.a := 0x1234 } (fun t => t.regs.s == 0x0134) = true := by decide
theorem test_tsc : stepsTo (emulation [0x3B]) (fun t => t.regs.a == 0x01FF && !t.flags.n) = true := by decide
theorem test_xba : stepsTo { native [0xEB] with regs.a := 0x8012 }
    (fun t => t.regs.a == 0x1280 && t.flags.n && t.log == [.read 0x008000 0xEB, .idle, .idle]) = true := by decide

/-! 43_modify.md -/

theorem test_asl_accumulator : stepsTo { native [0x0A] with regs.a := 0x1281 }
    (fun t => t.regs.a == 0x1202 && t.flags.c && !t.flags.n) = true := by decide
theorem test_asl_dummy_write : stepsTo (holding (emulation [0x06, 0x10]) [(0x000010, 0x40)])
    (fun t => t.log.drop 2 == [.read 0x000010 0x40, .write 0x000010 0x40, .write 0x000010 0x80] && t.flags.n) =
      true := by decide
theorem test_asl_wide_high_byte_first :
    stepsTo (holding { wide [0x0E, 0x34, 0x12] with regs.dbr := 0x7E } [(0x7E1235, 0x80)])
      (fun t => t.log.drop 5 == [.idle, .write 0x7E1235 0x00, .write 0x7E1234 0x00] && t.flags.c && t.flags.z) =
        true := by decide
theorem test_lsr : stepsTo { native [0x4A] with regs.a := 0x1201 }
    (fun t => t.regs.a == 0x1200 && t.flags.c && t.flags.z && !t.flags.n) = true := by decide
theorem test_rol_wide : stepsTo { wide [0x2A] with regs.a := 0x4000, flags.c := true }
    (fun t => t.regs.a == 0x8001 && !t.flags.c && t.flags.n) = true := by decide
theorem test_ror : stepsTo { native [0x6A] with regs.a := 0x0001, flags.c := true }
    (fun t => t.regs.a == 0x0080 && t.flags.c && t.flags.n) = true := by decide
theorem test_inc_accumulator : stepsTo { native [0x1A] with regs.a := 0x12FF }
    (fun t => t.regs.a == 0x1200 && t.flags.z) = true := by decide
theorem test_inc_wide : stepsTo (holding (wide [0xEE, 0x34, 0x12]) [(0x001234, 0xFF), (0x001235, 0xFF)])
    (fun t => t.mem.read 0x001234 == 0x00 && t.mem.read 0x001235 == 0x00 && t.flags.z && t.log.length == 8) =
      true := by decide
theorem test_dec_indexed : stepsTo (holding { wide [0xDE, 0x34, 0x12] with regs.x := 0x00FF } [(0x001334, 0x01)])
    (fun t => t.log.drop 3 == [.read 0x001233 0x00, .read 0x001333 0x00, .read 0x001334 0x01, .idle,
      .write 0x001334 0x00, .write 0x001333 0xFF] && !t.flags.z) = true := by decide
theorem test_inx_wide : stepsTo { wide [0xE8] with regs.x := 0x00FF }
    (fun t => t.regs.x == 0x0100 && !t.flags.z && !t.flags.n && t.log == [.read 0x008000 0xE8, .idle]) = true := by
  decide
theorem test_inx_wraps : stepsTo { native [0xE8] with regs.x := 0x00FF }
    (fun t => t.regs.x == 0x0000 && t.flags.z) = true := by decide
theorem test_iny : stepsTo { native [0xC8] with regs.y := 0x007F }
    (fun t => t.regs.y == 0x0080 && t.flags.n) = true := by decide
theorem test_dex_wraps : stepsTo (native [0xCA]) (fun t => t.regs.x == 0x00FF && t.flags.n) = true := by decide
theorem test_dey : stepsTo { native [0x88] with regs.y := 0x0001 }
    (fun t => t.regs.y == 0x0000 && t.flags.z) = true := by decide
theorem test_tsb : stepsTo (holding { native [0x04, 0x10] with regs.a := 0x000F } [(0x000010, 0xF0)])
    (fun t => t.mem.read 0x000010 == 0xFF && t.flags.z && !t.flags.n) = true := by decide
theorem test_trb : stepsTo (holding { native [0x14, 0x10] with regs.a := 0x000F, flags.n := true } [(0x000010, 0xFF)])
    (fun t => t.mem.read 0x000010 == 0xF0 && !t.flags.z && t.flags.n) = true := by decide

/-! 44_branch.md -/

theorem test_bpl_page_cross : stepsTo (emulation [0x10, 0x80])
    (fun t => t.regs.pc == 0x7F82 && t.log.length == 4) = true := by decide
theorem test_bmi : stepsTo { native [0x30, 0x02] with flags.n := true }
    (fun t => t.regs.pc == 0x8004 && t.log.length == 3) = true := by decide
theorem test_bvc : stepsTo (native [0x50, 0x02]) (fun t => t.regs.pc == 0x8004) = true := by decide
theorem test_bvs_not_taken : stepsTo (native [0x70, 0x02])
    (fun t => t.regs.pc == 0x8002 && t.log.length == 2) = true := by decide
theorem test_bcc_not_taken : stepsTo { native [0x90, 0x02] with flags.c := true }
    (fun t => t.regs.pc == 0x8002) = true := by decide
theorem test_bcs_native_cross : stepsTo (codeAt { native [] with flags.c := true } 0x00 0x8010 [0xB0, 0x80])
    (fun t => t.regs.pc == 0x7F92 && t.log.length == 3) = true := by decide
theorem test_bne : stepsTo (native [0xD0, 0x10])
    (fun t => t.regs.pc == 0x8012 && t.log.drop 1 == [.read 0x008001 0x10, .idle]) = true := by decide
theorem test_beq_wraps_in_bank : stepsTo (codeAt { native [] with flags.z := true } 0x00 0xFFFE [0xF0, 0x02])
    (fun t => t.regs.pc == 0x0002 && t.regs.pbr == 0x00) = true := by decide
theorem test_bra_page_cross : stepsTo (codeAt (emulation []) 0x00 0x80F0 [0x80, 0x7F])
    (fun t => t.regs.pc == 0x8171 && t.log.drop 2 == [.idle, .idle]) = true := by decide

/-! 45_control_stack_system.md -/

theorem test_jmp : stepsTo (codeAt (native []) 0x12 0x8000 [0x4C, 0x34, 0x12])
    (fun t => t.regs.pc == 0x1234 && t.regs.pbr == 0x12) = true := by decide
theorem test_jmp_indirect_wraps : stepsTo (holding (native [0x6C, 0xFF, 0xFF]) [(0x00FFFF, 0x78), (0x000000, 0x56)])
    (fun t => t.regs.pc == 0x5678) = true := by decide
theorem test_jml : stepsTo (native [0x5C, 0x34, 0x12, 0x7E])
    (fun t => t.regs.pc == 0x1234 && t.regs.pbr == 0x7E) = true := by decide
theorem test_jsr : stepsTo (native [0x20, 0x34, 0x12])
    (fun t => t.log.drop 3 == [.idle, .write 0x0001FF 0x80, .write 0x0001FE 0x02] && t.regs.s == 0x01FD) = true := by
  decide
theorem test_jsr_page_wrap : stepsTo { emulation [0x20, 0x34, 0x12] with regs.s := 0x0100 }
    (fun t => t.log.drop 4 == [.write 0x000100 0x80, .write 0x0001FF 0x02] && t.regs.s == 0x01FE) = true := by decide
theorem test_jsl : stepsTo (codeAt (native []) 0x01 0x8000 [0x22, 0x34, 0x12, 0x7E])
    (fun t => t.log.drop 3 == [.write 0x0001FF 0x01, .idle, .read 0x018003 0x7E, .write 0x0001FE 0x80,
      .write 0x0001FD 0x03] && t.regs.pbr == 0x7E) = true := by decide
theorem test_jsl_leaves_page : stepsTo (codeAt { emulation [] with regs.s := 0x0100 } 0x01 0x8000 [0x22, 0x34, 0x12, 0x7E])
    (fun t => t.mem.read 0x0000FF == 0x80 && t.mem.read 0x0000FE == 0x03 && t.regs.s == 0x01FD) = true := by decide
theorem test_rts : stepsTo (holding { native [0x60] with regs.s := 0x01FD } [(0x0001FE, 0x02), (0x0001FF, 0x80)])
    (fun t => t.regs.pc == 0x8003 && t.regs.s == 0x01FF && t.log.length == 6) = true := by decide
theorem test_rtl : stepsTo (holding { native [0x6B] with regs.s := 0x01FC }
      [(0x0001FD, 0x03), (0x0001FE, 0x80), (0x0001FF, 0x01)])
    (fun t => t.regs.pc == 0x8004 && t.regs.pbr == 0x01 && t.regs.s == 0x01FF) = true := by decide
theorem test_rti_native : stepsTo (holding { native [0x40] with regs.s := 0x01FB }
      [(0x0001FC, 0x03), (0x0001FD, 0x34), (0x0001FE, 0x12), (0x0001FF, 0x7E)])
    (fun t => t.regs.pc == 0x1234 && t.regs.pbr == 0x7E && t.flags.z && t.flags.c && !t.flags.m && !t.flags.i) =
      true := by decide
theorem test_rti_repolls : stepsTo (holding { emulation [0x40] with regs.s := 0x01FC, line.irq := true }
      [(0x0001FD, 0xC3), (0x0001FE, 0x34), (0x0001FF, 0x12)])
    (fun t => t.regs.pc == 0x1234 && t.flags.m && t.flags.xf && t.ilatch == some .irq) = true := by decide
theorem test_brk_native :
    stepsTo (holding (codeAt { native [] with flags.i := false, flags.df := true, flags.c := true } 0x01 0x8000
        [0x00, 0x00]) [(0x00FFE7, 0x90)])
      (fun t => t.log.drop 2 == [.write 0x0001FF 0x01, .write 0x0001FE 0x80, .write 0x0001FD 0x02,
        .write 0x0001FC 0x39, .read 0x00FFE6 0x00, .read 0x00FFE7 0x90] && t.fetchAddr == 0x009000 && t.flags.i &&
        !t.flags.df) = true := by decide
theorem test_brk_emulation :
    stepsTo { emulation [0x00, 0x00] with flags.i := false, flags.df := true, flags.c := true }
      (fun t => t.mem.read 0x0001FD == 0x39 && t.regs.s == 0x01FC && t.log.length == 7) = true := by decide
theorem test_nop : stepsTo (native [0xEA]) (fun t =>
    t == { native [0xEA] with regs.pc := 0x8001, log := [.read 0x008000 0xEA, .idle] }) = true := by decide
theorem test_clc : stepsTo { native [0x18] with flags.c := true } (fun t => !t.flags.c) = true := by decide
theorem test_sec : stepsTo (native [0x38]) (fun t => t.flags.c) = true := by decide
/-- R335: CLI's own poll still sees I = 1. -/
theorem test_cli_delay : stepsTo { native [0x58] with line.irq := true }
    (fun t => !t.flags.i && t.ilatch == none) = true := by decide
/-- R335: SEI's own poll still sees I = 0. -/
theorem test_sei_delay : stepsTo { native [0x78] with line.irq := true, flags.i := false }
    (fun t => t.flags.i && t.ilatch == some .irq) = true := by decide
theorem test_clv : stepsTo { native [0xB8] with flags.v := true } (fun t => !t.flags.v) = true := by decide
theorem test_cld : stepsTo { native [0xD8] with flags.df := true } (fun t => !t.flags.df) = true := by decide
theorem test_sed : stepsTo (native [0xF8]) (fun t => flagsToByte true t.flags == 0x3C) = true := by decide
theorem test_rep : stepsTo (native [0xC2, 0x30]) (fun t => flagsToByte true t.flags == 0x04) = true := by decide
theorem test_rep_emulation : stepsTo (emulation [0xC2, 0x30])
    (fun t => t.flags == (emulation []).flags && t.log.drop 2 == [.idle]) = true := by decide
theorem test_sep_clears_index_high : stepsTo { wide [0xE2, 0x30] with regs.x := 0x1234, regs.y := 0x5678, regs.a := 0xABCD }
    (fun t => t.flags.m && t.flags.xf && t.regs.x == 0x0034 && t.regs.y == 0x0078 && t.regs.a == 0xABCD) = true := by
  decide
theorem test_xce_to_emulation :
    stepsTo { wide [0xFB] with regs.x := 0x1234, regs.y := 0x5678, regs.s := 0x1FF0, flags.c := true }
      (fun t => t.flags.e && !t.flags.c && t.flags.m && t.flags.xf && t.regs.x == 0x0034 && t.regs.y == 0x0078 &&
        t.regs.s == 0x01F0) = true := by decide
theorem test_xce_to_native : stepsTo (emulation [0xFB])
    (fun t => !t.flags.e && t.flags.c && t.flags.m && t.flags.xf) = true := by decide
theorem test_pha_wide : stepsTo { wide [0x48] with regs.a := 0x1234 }
    (fun t => t.log.drop 2 == [.write 0x0001FF 0x12, .write 0x0001FE 0x34] && t.regs.s == 0x01FD) = true := by decide
theorem test_pha_page_wrap : stepsTo { emulation [0x48] with regs.a := 0x0042, regs.s := 0x0100 }
    (fun t => t.mem.read 0x000100 == 0x42 && t.regs.s == 0x01FF) = true := by decide
theorem test_phx_wide : stepsTo { wide [0xDA] with regs.x := 0xBEEF }
    (fun t => t.mem.read 0x0001FF == 0xBE && t.mem.read 0x0001FE == 0xEF) = true := by decide
theorem test_phy : stepsTo { native [0x5A] with regs.y := 0x0077 } (fun t => t.mem.read 0x0001FF == 0x77) = true := by
  decide
theorem test_php : stepsTo { native [0x08] with flags.n := true, flags.c := true }
    (fun t => t.mem.read 0x0001FF == 0xB5) = true := by decide
theorem test_phb : stepsTo { native [0x8B] with regs.dbr := 0x7E } (fun t => t.mem.read 0x0001FF == 0x7E) = true := by
  decide
theorem test_phk : stepsTo (codeAt (native []) 0x12 0x8000 [0x4B]) (fun t => t.mem.read 0x0001FF == 0x12) = true := by
  decide
theorem test_phd_leaves_page : stepsTo { emulation [0x0B] with regs.d := 0x1234, regs.s := 0x0100 }
    (fun t => t.mem.read 0x000100 == 0x12 && t.mem.read 0x0000FF == 0x34 && t.regs.s == 0x01FE) = true := by decide
theorem test_pla : stepsTo (holding { native [0x68] with regs.a := 0x1200, regs.s := 0x01FE } [(0x0001FF, 0x80)])
    (fun t => t.regs.a == 0x1280 && t.flags.n && t.regs.s == 0x01FF && t.log.length == 4) = true := by decide
theorem test_pla_page_wrap : stepsTo (holding (emulation [0x68]) [(0x000100, 0x42)])
    (fun t => t.regs.a == 0x0042 && t.regs.s == 0x0100) = true := by decide
theorem test_plx_wide : stepsTo (holding { wide [0xFA] with regs.s := 0x01FD } [(0x0001FE, 0x34), (0x0001FF, 0x92)])
    (fun t => t.regs.x == 0x9234 && t.flags.n) = true := by decide
theorem test_ply : stepsTo { native [0x7A] with regs.y := 0x0055 }
    (fun t => t.regs.y == 0x0000 && t.flags.z) = true := by decide
theorem test_plp_native : stepsTo (holding { wide [0x28] with regs.x := 0x1234, regs.y := 0x4321 } [(0x000200, 0xFF)])
    (fun t => flagsToByte true t.flags == 0xFF && t.regs.x == 0x0034 && t.regs.y == 0x0021) = true := by decide
theorem test_plp_emulation : stepsTo (emulation [0x28])
    (fun t => t.flags.m && t.flags.xf && !t.flags.i) = true := by decide
theorem test_plb_leaves_page : stepsTo (holding (emulation [0xAB]) [(0x000200, 0x80)])
    (fun t => t.regs.dbr == 0x80 && t.flags.n && t.regs.s == 0x0100) = true := by decide
theorem test_pld : stepsTo (holding { native [0x2B] with regs.s := 0x01FD } [(0x0001FF, 0x21)])
    (fun t => t.regs.d == 0x2100 && !t.flags.n && !t.flags.z) = true := by decide
theorem test_mvn : stepsTo (holding { wide [0x54, 0x7F, 0x7E] with regs.a := 1, regs.x := 0x1000, regs.y := 0x2000 }
      [(0x7E1000, 0xAA)])
    (fun t => t.mem.read 0x7F2000 == 0xAA && t.regs == { (wide []).regs with
      x := 0x1001, y := 0x2001, dbr := 0x7F, pc := 0x8000 } && t.log.length == 7) = true := by decide
theorem test_mvp_last_byte : stepsTo (holding { native [0x44, 0x00, 0x01] with regs.x := 0x0010 } [(0x010010, 0x5A)])
    (fun t => t.mem.read 0x000000 == 0x5A && t.regs.a == 0xFFFF && t.regs.x == 0x000F && t.regs.y == 0x00FF &&
      t.regs.pc == 0x8003) = true := by decide

/-! 60_exceptions.md and 70_reset_and_hazards.md -/

/-- The example of R290. -/
theorem test_unimplemented : failsTo (codeAt (native []) 0x12 0x8000 [0x02])
    (fun error t => error == { pc := 0x128000, opcode := 0x02 } && t ==
      { codeAt (native []) 0x12 0x8001 [] with
        mem := [(0x128000, 0x02)], fault := some error, log := [.read 0x128000 0x02] }) = true := by decide
/-- The fault is what every later step returns, with no bus call and no change (R291). -/
theorem test_fault_is_terminal : let s := { native [] with fault := some { pc := 0x128000, opcode := 0x02 } }
    failsTo s (fun error t => some error == s.fault && t == s) = true := by decide
/-- R315, first accept sequence: NMI before IRQ, the line bit of NMI dropped, the frame in page 1. -/
theorem test_nmi_accept :
    stepsTo (holding { codeAt (emulation []) 0x00 0x8001 [0xEA] with
        ilatch := some .nmi, line.nmi := true, line.irq := true, flags.i := false, flags.c := true } [(0x00FFFB, 0x90)])
      (fun t => t.log == [.read 0x008001 0xEA, .idle, .write 0x0001FF 0x80, .write 0x0001FE 0x01, .write 0x0001FD 0x21,
        .read 0x00FFFA 0x00, .read 0x00FFFB 0x90] && t.fetchAddr == 0x009000 && !t.line.nmi && t.line.irq &&
        t.ilatch == none) = true := by decide
theorem test_irq_accept_native :
    stepsTo (holding { codeAt (native []) 0x12 0x8000 [] with ilatch := some .irq, line.irq := true } [(0x00FFEF, 0xA0)])
      (fun t => t.fetchAddr == 0x00A000 && t.mem.read 0x0001FF == 0x12 && t.regs.s == 0x01FB && t.line.irq) = true := by
  decide
/-- The example of R331. -/
theorem test_reset_sequence :
    stepsTo (holding { codeAt (wide []) 0x12 0x3456 [] with
        ilatch := some .reset, regs.a := 0xBEEF, regs.x := 0x1234, regs.y := 0x5678, regs.s := 0x1F02,
        regs.d := 0x2000, regs.dbr := 0x7E, flags.df := true, flags.i := false } [(0x00FFFD, 0x80)])
      (fun t => t.regs.a == 0xBEEF && t.regs.x == 0x0034 && t.regs.y == 0x0078 && t.regs.s == 0x01FF &&
        t.regs.d == 0x0000 && t.regs.dbr == 0x00 && t.fetchAddr == 0x008000 && t.flags.e && t.flags.m &&
        t.flags.xf && t.flags.i && !t.flags.df &&
        t.log.drop 2 == [.read 0x000102 0x00, .read 0x000101 0x00, .read 0x000100 0x00, .read 0x00FFFC 0x00,
          .read 0x00FFFD 0x80]) = true := by decide
/-- A line raised by the Bus in the last call of a step is not seen by that step's poll (R299). -/
theorem test_poll_before_last_call :
    stepsTo { native [0xEA] with
        env := [{ answer := none, line := none },
          { answer := none, line := some { reset := false, nmi := true, irq := false } }] }
      (fun t => t.ilatch == none && t.line.nmi) = true ∧
    stepsTo { native [0xEA] with
        env := [{ answer := none, line := some { reset := false, nmi := true, irq := false } }] }
      (fun t => t.ilatch == some .nmi) = true := by decide
/-- `withFetchWord` makes the very next step from reset run the instruction. -/
theorem test_withFetchWord : stepsTo (State.reset.withFetchWord 32 0x7E12345C)
    (fun t => t.regs.pbr == 0x7E && t.regs.pc == 0x1234) = true := by decide

/-! ### Witnesses: the hypotheses of each obligation, met together -/

theorem witness_DecodeEncode :
    WellFormed true true (.ldaImm (.byte 0x12)) = true ∧ WellFormed false false (.ldxImm (.word 0x1234)) = true ∧
    WellFormed true true .inx = true := by decide

theorem witness_EncodeDecode :
    decode false true [0xA9, 0x34, 0x12, 0xEA] = .instr (.ldaImm (.word 0x1234)) [0xEA] := by decide

theorem witness_StepRunsDecoded : let s := native [0x69, 0x01]
    s.fault = none ∧ s.ilatch = none ∧
    decode s.flags.m s.flags.xf s.instrBytes = .instr (.adcImm (.byte 0x01)) [] := by decide

theorem witness_StepRunsStored : let s := native [0x69, 0x01]
    s.env = [] ∧ s.mem.wf = true ∧ s.fault = none ∧ s.ilatch = none ∧
    decode s.flags.m s.flags.xf s.storedBytes = .instr (.adcImm (.byte 0x01)) [0x00, 0x00] := by decide

/-- JSL, one address away from pushing onto its own bank byte. -/
theorem witness_StepRunsStored_jsl : let s := codeAt { native [] with regs.s := 0x8004 } 0x00 0x8000 [0x22, 0x34, 0x12, 0x7E]
    s.env = [] ∧ s.mem.wf = true ∧ s.fault = none ∧ s.ilatch = none ∧
    decode s.flags.m s.flags.xf s.storedBytes = .instr (.jsl 0x7E1234) [] ∧
    pushAddr false s.regs.s 0 ≠ s.codeAddr 3 := by decide

theorem witness_UnimplementedOpcodeRecorded : let s := native [0xFF]
    s.fault = none ∧ s.ilatch = none ∧ opcodeFormat (s.byteAt 0 s.fetchAddr) = none := by
  exact ⟨rfl, rfl, rfl⟩

theorem witness_RecordedFaultIsTerminal :
    ({ native [] with fault := some { pc := 0x128000, opcode := 0x02 } } : State).fault =
      some { pc := 0x128000, opcode := 0x02 } := rfl

/-- A step that returns ok, one that raises the fault, and one that takes an interrupt although the opcode
byte is unimplemented. -/
theorem witness_OnlyRecordedFaultStops :
    stepsTo (native [0xEA]) (fun t => t.fault == none) = true ∧
    failsTo (native [0x02]) (fun error t => t.fault == some error) = true ∧
    stepsTo { native [0x02] with ilatch := some .nmi } (fun t => t.fault == none) = true := by decide

/-- Each row of the statement: a step that completes, one that raises the fault, one that finds it recorded. -/
theorem witness_StepBusCalls :
    (∃ t, StepLeaves (native [0xEA]) t ∧ t.fault = none ∧ t.log.length = 2) ∧
    (∃ t, StepLeaves (native [0x02]) t ∧ t.fault ≠ none ∧ t.log.length = 1) ∧
    (∃ t, StepLeaves { native [] with fault := some { pc := 0x008000, opcode := 0x02 } } t ∧ t.log.length = 0) := by
  refine ⟨⟨_, .inl rfl, ?_, ?_⟩, ⟨_, .inr ⟨_, rfl⟩, ?_, ?_⟩, ⟨_, .inr ⟨_, rfl⟩, ?_⟩⟩ <;> decide

theorem witness_PollSelects :
    pollResult { reset := true, nmi := true, irq := true } false = some .reset ∧
    pollResult { reset := false, nmi := true, irq := true } false = some .nmi ∧
    pollResult { reset := false, nmi := false, irq := true } false = some .irq ∧
    pollResult { reset := false, nmi := false, irq := true } true = none := by decide

theorem witness_InterruptTaken :
    (let s := { native [0xEA] with ilatch := some .nmi }
     s.fault = none ∧ s.ilatch = some .nmi ∧ s.mem.wf = true) ∧
    (let s := { emulation [0xEA] with ilatch := some .irq }
     s.fault = none ∧ s.ilatch = some .irq ∧ s.mem.wf = true) := by decide

theorem witness_ResetSequence : let s := { wide [0xEA] with ilatch := some .reset }
    s.fault = none ∧ s.ilatch = some .reset := by decide

/-- The invariant with a step that completes, in emulation mode and in native mode with 16-bit registers, and
with one that returns the fault. -/
theorem witness_StepKeepsInv :
    ((emulation [0xEA]).Inv ∧ ∃ t, StepLeaves (emulation [0xEA]) t) ∧
    ((wide [0xE2, 0x30]).Inv ∧ ∃ t, StepLeaves (wide [0xE2, 0x30]) t) ∧
    ((wide [0x02]).Inv ∧ ∃ t, StepLeaves (wide [0x02]) t) := by
  refine ⟨⟨⟨?_, ?_, ?_, ?_⟩, ⟨_, .inl rfl⟩⟩, ⟨⟨?_, ?_, ?_, ?_⟩, ⟨_, .inl rfl⟩⟩, ⟨⟨?_, ?_, ?_, ?_⟩, ⟨_, .inr ⟨_, rfl⟩⟩⟩⟩
  all_goals decide

theorem witness_PowerOnInv : Memory.wf [(0x0000FC, 0x34), (0x00FFFD, 0x80)] = true := by decide

theorem witness_FixtureMemory :
    let mem : Memory := [(0x000010, 0x34), (0xFFFFFF, 0x12)]
    mem.wf = true ∧ (mem.write 0xFFFFFF 0x00).read 0xFFFFFF = 0x00 ∧ (mem.write 0xFFFFFF 0x00).read 0x000010 = 0x34 := by
  decide

theorem witness_FlagByte : (emulation []).flags.e = true ∧ (native []).flags.e = false := by decide

theorem witness_CarryOverflowLaw :
    ((0xFF : Word).toNat < 2 ^ Width.w8.bits ∧ (0x01 : Word).toNat < 2 ^ Width.w8.bits) ∧
    ((0xFFFF : Word).toNat < 2 ^ Width.w16.bits ∧ (0x8000 : Word).toNat < 2 ^ Width.w16.bits) := by decide

theorem witness_DecimalArithmetic :
    (ValidBcd 0x0099 ∧ ValidBcd 0x0000 ∧ (0x0099 : Word).toNat < 2 ^ Width.w8.bits) ∧
    (ValidBcd 0x9999 ∧ ValidBcd 0x0001 ∧ (0x9999 : Word).toNat < 2 ^ Width.w16.bits) := by
  unfold ValidBcd
  decide

/-- An immediate operand of the width in force, for M and for XF at both values: the hypothesis of every
`ImmediateBy` of LogicResults, AdcResults, SbcResults, CompareResults, BitResults and LoadResults. -/
theorem witness_ImmediateBy :
    (Imm.byte 0xFF).fits (decide ((native []).widthA = .w8)) = true ∧
    (Imm.word 0xFFFF).fits (decide ((wide []).widthA = .w8)) = true ∧
    (Imm.byte 0xFF).fits (decide ((native []).widthX = .w8)) = true ∧
    (Imm.word 0xFFFF).fits (decide ((wide []).widthX = .w8)) = true := by decide

theorem witness_LogicResults :
    ((Instr.eorDp 0x10, Mode.dp 0x10) ∈ AccForms.memory ⟨.eorSr, .eorDp, .eorImm, .eorAbs, .eorLong, .eorIndY, .eorInd,
      .eorDpX, .eorAbsY, .eorAbsX⟩ 0x10 0x1234 0x7E1234) ∧
    (Imm.byte 0x80).fits (decide ((native []).widthA = .w8)) = true := by decide

theorem witness_AdcResults :
    ((Instr.adcIndY 0x10, Mode.iny 0x10) ∈ AccForms.memory ⟨.adcSr, .adcDp, .adcImm, .adcAbs, .adcLong, .adcIndY, .adcInd,
      .adcDpX, .adcAbsY, .adcAbsX⟩ 0x10 0x1234 0x7E1234) ∧
    (Imm.word 0x8000).fits (decide ((wide []).widthA = .w8)) = true := by decide

theorem witness_SbcResults :
    ((Instr.sbcSr 0x10, Mode.sr 0x10) ∈ AccForms.memory ⟨.sbcSr, .sbcDp, .sbcImm, .sbcAbs, .sbcLong, .sbcIndY, .sbcInd,
      .sbcDpX, .sbcAbsY, .sbcAbsX⟩ 0x10 0x1234 0x7E1234) ∧
    (Imm.byte 0x01).fits (decide ((native []).widthA = .w8)) = true := by decide

theorem witness_CompareResults :
    ((Instr.cmpLong 0x7E1234, Mode.abl 0x7E1234) ∈ AccForms.memory ⟨.cmpSr, .cmpDp, .cmpImm, .cmpAbs, .cmpLong, .cmpIndY,
      .cmpInd, .cmpDpX, .cmpAbsY, .cmpAbsX⟩ 0x10 0x1234 0x7E1234) ∧
    ((Instr.cpxDp 0x10, Mode.dp 0x10) ∈ [(Instr.cpxDp 0x10, Mode.dp 0x10), (.cpxAbs 0x1234, .abs 0x1234)]) ∧
    (Imm.word 0x0100).fits (decide ((wide []).widthX = .w8)) = true := by decide

theorem witness_BitResults :
    ((Instr.bitDp 0x10, Mode.dp 0x10) ∈ [(Instr.bitDp 0x10, Mode.dp 0x10), (.bitAbs 0x1234, .abs 0x1234)]) ∧
    (Imm.byte 0xC0).fits (decide ((native []).widthA = .w8)) = true := by decide

theorem witness_LoadResults :
    ((Instr.ldaAbsX 0xFFFF, Mode.abx 0xFFFF) ∈ AccForms.memory ⟨.ldaSr, .ldaDp, .ldaImm, .ldaAbs, .ldaLong, .ldaIndY,
      .ldaInd, .ldaDpX, .ldaAbsY, .ldaAbsX⟩ 0x10 0xFFFF 0x7E1234) ∧
    (Imm.byte 0x80).fits (decide ((native []).widthX = .w8)) = true := by decide

/-- A state whose store is in canonical form, with a byte listed and with none: the hypothesis of StoreResults,
of ShiftResults, IncDecResults and TestAndSetResults, of JsrResult, JslResult, BrkResult, PushResults,
PhdResult and BlockMoveResults. -/
theorem witness_canonical_store : (native [0x85, 0x10]).mem.wf = true ∧ State.reset.mem.wf = true := by decide

theorem witness_StoreResults :
    ((Instr.staDp 0xFF, Mode.dp 0xFF) ∈ [(Instr.staSr 0xFF, Mode.sr 0xFF), (.staDp 0xFF, .dp 0xFF)]) ∧
    (wide [0x85, 0xFF]).mem.wf = true := by decide

theorem witness_ShiftResults :
    ((Instr.aslDp 0x10, Mode.dp 0x10) ∈ [(Instr.aslDp 0x10, Mode.dp 0x10), (.aslAbs 0x1234, .abs 0x1234)]) ∧
    (wide [0x06, 0x10]).mem.wf = true := by decide

theorem witness_IncDecResults :
    ((Instr.decAbs 0xFFFF, Mode.abs 0xFFFF) ∈ [(Instr.decDp 0x10, Mode.dp 0x10), (.decAbs 0xFFFF, .abs 0xFFFF)]) ∧
    (wide [0xCE, 0xFF, 0xFF]).mem.wf = true := by decide

theorem witness_TestAndSetResults :
    ((Instr.trbAbs 0x1234, Mode.abs 0x1234) ∈ [(Instr.trbDp 0x10, Mode.dp 0x10), (.trbAbs 0x1234, .abs 0x1234)]) ∧
    (emulation [0x1C, 0x34, 0x12]).mem.wf = true := by decide

theorem witness_JsrResult : ({ emulation [0x20, 0x34, 0x12] with regs.s := 0x0100 } : State).mem.wf = true := by decide
theorem witness_JslResult : ({ emulation [0x22, 0x34, 0x12, 0x7E] with regs.s := 0x0100 } : State).mem.wf = true := by
  decide
theorem witness_BrkResult : (native [0x00, 0x00]).mem.wf = true ∧ (emulation [0x00, 0x00]).mem.wf = true := by decide
theorem witness_PushResults : (wide [0x48]).mem.wf = true ∧ (emulation [0x48]).mem.wf = true := by decide
theorem witness_PhdResult : ({ emulation [0x0B] with regs.s := 0x0100 } : State).mem.wf = true := by decide
theorem witness_BlockMoveResults : (wide [0x54, 0x7F, 0x7E]).mem.wf = true := by decide

/-- JML, BRK and RTI each change PBR. -/
theorem witness_ProgramBankWriters :
    passes (exec (.jml 0x7E1234) (native [])) (fun t => t.regs.pbr != (native []).regs.pbr) = true ∧
    passes (exec (.brk 0x00) (codeAt (native []) 0x12 0x8000 [])) (fun t => t.regs.pbr != 0x12) = true ∧
    passes (exec .rti (codeAt (native []) 0x12 0x8000 [])) (fun t => t.regs.pbr != 0x12) = true := by decide

/-- PHA changes S, TCD changes D, PLB changes DBR. -/
theorem witness_StackDirectBankWriters :
    passes (exec .pha (native [])) (fun t => t.regs.s != 0x01FF) = true ∧
    passes (exec .tcd { native [] with regs.a := 0x8000 }) (fun t => t.regs.d != 0) = true ∧
    passes (exec .plb (holding (native []) [(0x000200, 0x80)])) (fun t => t.regs.dbr != 0) = true := by decide

/-- CLV changes V, SED changes DF, CLI changes I, XCE changes E and the widths, REP changes the widths. -/
theorem witness_FlagWriters :
    passes (exec .clv { native [] with flags.v := true }) (fun t => !t.flags.v) = true ∧
    passes (exec .sed (native [])) (fun t => t.flags.df) = true ∧
    passes (exec .cli (native [])) (fun t => !t.flags.i) = true ∧
    passes (exec .xce { wide [] with flags.c := true }) (fun t => t.flags.e && t.flags.m && t.flags.xf) = true ∧
    passes (exec (.rep 0x30) (native [])) (fun t => !t.flags.m && !t.flags.xf) = true := by decide

/-- A store, a modify instruction, and a load whose index stays in the page (0x12FF) and leaves it (0x1300). -/
theorem witness_IndexedDummyReads :
    (∃ t, exec (.staAbsX 0x12F0) (native []) = .next t) ∧ (∃ t, exec (.incAbsX 0x12F0) (native []) = .next t) ∧
    passes (exec (.ldaAbsX 0x12F0) { native [] with regs.x := 0x000F }) (fun t => t.log.length == 4) = true ∧
    passes (exec (.ldaAbsX 0x12F0) { native [] with regs.x := 0x0010 }) (fun t => t.log.length == 5) = true := by
  refine ⟨⟨_, rfl⟩, ⟨_, rfl⟩, ?_, ?_⟩ <;> decide

/-- JSR with S at the bottom of page 1 in emulation mode: a state before, the state after, and a return state. -/
theorem witness_CallsReturn_jsr : let s := { emulation [] with regs.s := 0x0100 }
    ∃ t u : State, s.mem.wf = true ∧ u.Quiet ∧ u.mem = t.mem ∧ u.regs.s = t.regs.s ∧ u.flags.e = s.flags.e ∧
      (s.flags.e = true → highByte s.regs.s = 0x01) ∧ exec (.jsr 0x1234) s = .next t := by
  intro s
  obtain ⟨t, ht⟩ : ∃ t, exec (.jsr 0x1234) s = .next t := ⟨_, rfl⟩
  refine ⟨t, { emulation [] with mem := t.mem, regs.s := t.regs.s }, ?_, rfl, rfl, rfl, rfl, ?_, ht⟩ <;> decide

/-- JSL with S as low as its clause allows in emulation mode. -/
theorem witness_CallsReturn_jsl : let s := { emulation [] with regs.s := 0x0103 }
    ∃ t u : State, s.mem.wf = true ∧ u.Quiet ∧ u.mem = t.mem ∧ u.regs.s = t.regs.s ∧ u.flags.e = s.flags.e ∧
      (s.flags.e = true → highByte s.regs.s = 0x01) ∧ exec (.jsl 0x7E1234) s = .next t ∧
      (s.flags.e = true → 3 ≤ (lowByte s.regs.s).toNat) := by
  intro s
  obtain ⟨t, ht⟩ : ∃ t, exec (.jsl 0x7E1234) s = .next t := ⟨_, rfl⟩
  refine ⟨t, { emulation [] with mem := t.mem, regs.s := t.regs.s }, ?_, rfl, rfl, rfl, rfl, ?_, ht, ?_⟩ <;> decide

/-- A native NMI. -/
theorem witness_RtiRecovers_nmi : let s := { codeAt (native []) 0x12 0x8000 [0xEA] with ilatch := some .nmi }
    ∃ t u : State, s.mem.wf = true ∧ s.fault = none ∧ (s.ilatch = some .nmi ∨ s.ilatch = some .irq) ∧
      step s = .next t ∧ u.Quiet ∧ u.mem = t.mem ∧ u.regs.s = t.regs.s ∧ u.flags.e = s.flags.e ∧
      (s.flags.e = true → highByte s.regs.s = 0x01) := by
  intro s
  obtain ⟨t, ht⟩ : ∃ t, step s = .next t := ⟨_, rfl⟩
  refine ⟨t, { native [] with mem := t.mem, regs.s := t.regs.s }, ?_, rfl, .inl rfl, ht, rfl, rfl, rfl, rfl, ?_⟩ <;> decide

/-- An IRQ in emulation mode with S at the bottom of page 1. -/
theorem witness_RtiRecovers_irq : let s := { emulation [0xEA] with ilatch := some .irq, regs.s := 0x0100 }
    ∃ t u : State, s.mem.wf = true ∧ s.fault = none ∧ (s.ilatch = some .nmi ∨ s.ilatch = some .irq) ∧
      step s = .next t ∧ u.Quiet ∧ u.mem = t.mem ∧ u.regs.s = t.regs.s ∧ u.flags.e = s.flags.e ∧
      (s.flags.e = true → highByte s.regs.s = 0x01) := by
  intro s
  obtain ⟨t, ht⟩ : ∃ t, step s = .next t := ⟨_, rfl⟩
  refine ⟨t, { emulation [] with mem := t.mem, regs.s := t.regs.s }, ?_, rfl, .inr rfl, ht, rfl, rfl, rfl, rfl, ?_⟩ <;> decide

end Sys2Proof.Tests
end

