-- ==== Sys2Proof/Proofs/AddressFormation.lean ====
section
/-! PROOFS. Address formation (40_addressing_modes.md R115, R118, R126, R127): each address as a number. -/

namespace Sys2Proof.Machine

open Sys2Proof

/-- The first case of R126 holds exactly where E = 1 and D is the start of a page. -/
theorem directPageWraps_iff (s : State) :
    (s.flags.e && lowByte s.regs.d == 0) = true ↔ s.flags.e = true ∧ s.regs.d.toNat % 256 = 0 := by
  rw [Bool.and_eq_true, beq_iff_eq, ← BitVec.toNat_inj, toNat_lowByte]
  rfl

/-- R126, first case: the sum stays in D's page, its carry out of the low byte dropped. -/
theorem toNat_directAddr_of_wraps (s : State) (o n : Word)
    (h : s.flags.e = true ∧ s.regs.d.toNat % 256 = 0) :
    (s.directAddr o n).toNat = s.regs.d.toNat / 256 * 256 + (o.toNat + n.toNat) % 256 := by
  have low : (lowByte (o + n)).toNat = (o.toNat + n.toNat) % 256 := by
    rw [toNat_lowByte, BitVec.toNat_add, Nat.mod_mod_of_dvd _ (by decide)]
  rw [State.directAddr, if_pos ((directPageWraps_iff s).mpr h), toNat_bankAddr, toNat_joinBytes,
    toNat_highByte, low]
  simp

/-- R126, second case: the sum of D, the offset and the byte number wraps within bank 0. -/
theorem toNat_directAddr_of_not_wraps (s : State) (o n : Word)
    (h : ¬(s.flags.e = true ∧ s.regs.d.toNat % 256 = 0)) :
    (s.directAddr o n).toNat = (s.regs.d.toNat + o.toNat + n.toNat) % 65536 := by
  rw [State.directAddr, if_neg (mt (directPageWraps_iff s).mp h), toNat_bankAddr, BitVec.toNat_add,
    BitVec.toNat_add, Nat.mod_add_mod]
  simp

/-- R127: the predicate compares the page of the unwrapped sum with the page of the base. -/
theorem pageCross_iff (base i : Word) :
    pageCross base i = true ↔ (base.toNat + i.toNat) / 256 ≠ base.toNat / 256 := bne_iff_ne

/-- The indexed sum of R115 and R118 carries into the bank and wraps at 24 bits. -/
theorem toNat_indexedAddr (s : State) (base i : Word) :
    (s.indexedAddr base i).toNat =
      (s.regs.dbr.toNat * 65536 + base.toNat + i.toNat) % 16777216 := by
  have index : (i.setWidth 24).toNat = i.toNat := BitVec.toNat_setWidth_of_le (by decide)
  rw [State.indexedAddr, BitVec.toNat_add, toNat_bankAddr, index]

/-- Settles O20, by the two cases of the direct page, the page-cross predicate and the indexed sum. -/
theorem addressFormation : Obligations.AddressFormation := by
  refine ⟨fun s o n => ?_, pageCross_iff, toNat_indexedAddr⟩
  split
  case isTrue h => exact toNat_directAddr_of_wraps s o n h
  case isFalse h => exact toNat_directAddr_of_not_wraps s o n h

end Sys2Proof.Machine
end

section
/-! PROOFS. The binary and read operators (41_binary_read.md R140 to R150): every form of a mnemonic is the
template of R140 around one operator, so a statement about a mnemonic is a statement about its operator on
operands of the width in force. -/

namespace Sys2Proof.Machine

open Sys2Proof

/-! ### Words at a width -/

theorem getLsbD_trunc (w : Width) (v : Word) (i : Nat) :
    (w.trunc v).getLsbD i = (decide (i < w.bits) && v.getLsbD i) := by
  cases w with
  | w8 =>
    rw [trunc_w8, zeroExt_eq_joinBytes, getLsbD_joinBytes]
    by_cases hi : i < 8 <;> simp [lowByte, hi]
  | w16 =>
    by_cases hi : i < 16
    · simp [hi]
    · simp [BitVec.getLsbD_of_ge v i (by omega)]

theorem toNat_trunc (w : Width) (v : Word) : (w.trunc v).toNat = v.toNat % 2 ^ w.bits := by
  cases w with
  | w8 => simp [zeroExt_eq_joinBytes, toNat_joinBytes, toNat_lowByte]
  | w16 => exact (Nat.mod_eq_of_lt v.isLt).symm

theorem toNat_wrap (w : Width) (n : Nat) : (w.wrap n).toNat = n % 2 ^ w.bits := by
  have hle : 2 ^ w.bits ≤ 2 ^ 16 := by cases w <;> decide
  have hlt : n % 2 ^ w.bits < 2 ^ w.bits := Nat.mod_lt _ (Nat.two_pow_pos _)
  rw [Width.wrap, BitVec.toNat_ofNat, Nat.mod_eq_of_lt (hlt.trans_le hle)]

/-- The two spellings of `n mod 2^w` agree. -/
theorem trunc_ofNat (w : Width) (n : Nat) : w.trunc (BitVec.ofNat 16 n) = w.wrap n := by
  apply BitVec.eq_of_toNat_eq
  rw [toNat_trunc, toNat_wrap, BitVec.toNat_ofNat]
  cases w <;> simp

@[simp] theorem trunc_wrap (w : Width) (n : Nat) : w.trunc (w.wrap n) = w.wrap n := by
  rw [← trunc_ofNat, trunc_trunc]

/-- A word is unchanged by truncation exactly where it is a `w`-bit number. -/
theorem trunc_eq_self_iff (w : Width) (v : Word) : w.trunc v = v ↔ v.toNat < 2 ^ w.bits := by
  have hpos : 0 < 2 ^ w.bits := Nat.two_pow_pos _
  rw [← BitVec.toNat_inj, toNat_trunc]
  exact ⟨fun h => h ▸ Nat.mod_lt _ hpos, Nat.mod_eq_of_lt⟩

theorem trunc_or (w : Width) (a b : Word) : w.trunc (a ||| b) = w.trunc a ||| w.trunc b := by
  apply BitVec.eq_of_getLsbD_eq
  intro i _
  simp [getLsbD_trunc, Bool.and_or_distrib_left]

theorem trunc_and (w : Width) (a b : Word) : w.trunc (a &&& b) = w.trunc a &&& w.trunc b := by
  apply BitVec.eq_of_getLsbD_eq
  intro i _
  by_cases hi : i < w.bits <;> simp [getLsbD_trunc, hi]

theorem trunc_xor (w : Width) (a b : Word) : w.trunc (a ^^^ b) = w.trunc a ^^^ w.trunc b := by
  apply BitVec.eq_of_getLsbD_eq
  intro i _
  by_cases hi : i < w.bits <;> simp [getLsbD_trunc, hi]

@[simp] theorem trunc_getA (s : State) : s.widthA.trunc s.getA = s.getA := trunc_trunc _ _

/-- The sign bit lies within the width. -/
theorem sign_trunc (w : Width) (v : Word) :
    (w.trunc v).getLsbD (w.bits - 1) = v.getLsbD (w.bits - 1) := by
  have h : w.bits - 1 < w.bits := by cases w <;> decide
  simp [getLsbD_trunc, h]

/-- The complement at width `w` as a number (41_binary_read.md R145). -/
theorem toNat_trunc_not (w : Width) (m : Word) (hm : w.trunc m = m) :
    (w.trunc (~~~m)).toNat = 2 ^ w.bits - 1 - m.toNat := by
  rw [trunc_eq_self_iff] at hm
  rw [toNat_trunc, BitVec.toNat_not]
  cases w <;> simp only [bits_w8, bits_w16] at hm ⊢ <;> omega

/-- The complement at width `w` flips the sign bit. -/
theorem sign_trunc_not (w : Width) (m : Word) :
    (w.trunc (~~~m)).getLsbD (w.bits - 1) = !m.getLsbD (w.bits - 1) := by
  have h : w.bits - 1 < 16 := by cases w <;> decide
  simp only [sign_trunc, BitVec.getLsbD_not, h, decide_true, Bool.true_and]

/-- The difference modulo `2^w`, computed without going below 0 (41_binary_read.md R146). -/
theorem trunc_sub (w : Width) (l m : Word) (hm : w.trunc m = m) :
    w.trunc (l - m) = w.wrap (l.toNat + 2 ^ w.bits - m.toNat) := by
  rw [trunc_eq_self_iff] at hm
  have := l.isLt
  apply BitVec.eq_of_toNat_eq
  rw [toNat_trunc, toNat_wrap, BitVec.toNat_sub]
  cases w <;> simp only [bits_w8, bits_w16] at hm ⊢ <;> omega

/-! ### Operands have the width in force -/

theorem trunc_operandAt (s : State) (k : Nat) (ea : EffAddr) (w : Width) :
    w.trunc (s.operandAt k ea w) = s.operandAt k ea w := by
  cases w <;> simp [State.operandAt]

theorem trunc_readValue (s : State) (mode : Mode) (w : Width) :
    w.trunc (s.readValue mode w) = s.readValue mode w := trunc_operandAt _ _ _ _

/-- An immediate of the width in force is its own truncation (30_encoding.md R91). -/
theorem trunc_immValue (w : Width) (v : Imm) (h : v.fits (decide (w = .w8)) = true) :
    w.trunc (immValue v) = immValue v := by
  cases w <;> cases v <;> simp_all [Imm.fits, immValue]

/-! ### The template of R140 -/

/-- The instruction is the template of 41_binary_read.md R140 around the operator. -/
def AppliesRead (w : State → Width) (op : ReadOp) (f : Instr × Mode) : Prop :=
  ∀ s : State, exec f.1 s = complete (readInstr w f.2 op) s

/-- The immediate form is that template around the operator. -/
def AppliesImmediate (w : State → Width) (op : ReadOp) (i : Imm → Instr) : Prop :=
  ∀ (v : Imm) (s : State), exec (i v) s = complete (immediateInstr w v op) s

/-- All ten forms are that template around one operator. -/
def AccForms.Apply (F : AccForms) (op : ReadOp) : Prop :=
  (∀ off addr al, ∀ f ∈ F.memory off addr al, AppliesRead State.widthA op f) ∧
  AppliesImmediate State.widthA op F.imm

/-- A mnemonic follows the template as soon as `exec` dispatches each of its ten forms to it. -/
theorem AccForms.apply_of_dispatch {F : AccForms} {op : ReadOp}
    (h : ∀ off addr al v s,
      exec (F.sr off) s = complete (readInstr State.widthA (.sr off) op) s ∧
      exec (F.dp off) s = complete (readInstr State.widthA (.dp off) op) s ∧
      exec (F.imm v) s = complete (immediateInstr State.widthA v op) s ∧
      exec (F.abs addr) s = complete (readInstr State.widthA (.abs addr) op) s ∧
      exec (F.long al) s = complete (readInstr State.widthA (.abl al) op) s ∧
      exec (F.indY off) s = complete (readInstr State.widthA (.iny off) op) s ∧
      exec (F.ind off) s = complete (readInstr State.widthA (.ind off) op) s ∧
      exec (F.dpX off) s = complete (readInstr State.widthA (.dpx off) op) s ∧
      exec (F.absY addr) s = complete (readInstr State.widthA (.aby addr) op) s ∧
      exec (F.absX addr) s = complete (readInstr State.widthA (.abx addr) op) s) : F.Apply op := by
  constructor
  · intro off addr al f hf s
    obtain ⟨sr, dp, -, abs, long, indY, ind, dpX, absY, absX⟩ := h off addr al (.byte 0) s
    simp only [AccForms.memory, List.mem_cons, List.not_mem_nil, or_false] at hf
    obtain rfl | rfl | rfl | rfl | rfl | rfl | rfl | rfl | rfl := hf
    exacts [sr, dp, abs, long, indY, ind, dpX, absY, absX]
  · intro v s
    obtain ⟨-, -, imm, -⟩ := h 0 0 0 v s
    exact imm

/-- The operator does what `result` says to every operand of the width in force. -/
def OperatorResult (w : State → Width) (op : ReadOp) (result : Width → Word → State → State) : Prop :=
  ∀ (t : State) (m : Word), (w t).trunc m = m → op (w t) m t = result (w t) m t

/-- The width is that of a flag, so it is the same before and after the bus calls (10_state.md R37). -/
def FlagWidth (w : State → Width) : Prop := ∀ s t : State, t.flags = s.flags → w t = w s

theorem flagWidth_widthA : FlagWidth State.widthA := by
  intro s t h
  simp only [State.widthA, h]

theorem flagWidth_widthX : FlagWidth State.widthX := by
  intro s t h
  simp only [State.widthX, h]

theorem AppliesRead.readsBy {w : State → Width} {op : ReadOp} {f : Instr × Mode}
    {result : Width → Word → State → State} (hf : AppliesRead w op f) (hw : FlagWidth w)
    (hop : OperatorResult w op result) : ReadsBy w result f := by
  intro s
  have hrun := readInstr_run w f.2 op s fun _ _ => hw _ _ rfl
  have hafter : w (s.afterRead f.2 (w s)) = w s := hw _ _ rfl
  have hres := hop (s.afterRead f.2 (w s)) (s.readValue f.2 (w s))
  rw [hafter] at hres
  rw [hf s, complete_next, hrun, hres (trunc_readValue _ _ _)]

theorem AppliesImmediate.immediateBy {w : State → Width} {op : ReadOp} {i : Imm → Instr}
    {result : Width → Word → State → State} (hi : AppliesImmediate w op i) (hw : FlagWidth w)
    (hop : OperatorResult w op result) : ImmediateBy w result i := by
  intro s v hfits
  have hv := trunc_immValue (w s) v hfits
  have hrun := immediateInstr_run w v op s fun _ _ => hw _ _ rfl
  have hafter : w (s.afterImmediate (w s)) = w s := hw _ _ (State.afterImmediate_flags s (w s))
  have hres := hop (s.afterImmediate (w s)) (immValue v)
  rw [hafter] at hres
  rw [hi v s, complete_next, hrun, hv, hres hv]

theorem AccForms.Apply.readBy {F : AccForms} {op : ReadOp} {result : Width → Word → State → State}
    (hF : F.Apply op) (hop : OperatorResult State.widthA op result) : F.ReadBy result :=
  ⟨fun off addr al f hf => (hF.1 off addr al f hf).readsBy flagWidth_widthA hop,
    hF.2.immediateBy flagWidth_widthA hop⟩

theorem ora_apply : AccForms.Apply ⟨.oraSr, .oraDp, .oraImm, .oraAbs, .oraLong, .oraIndY, .oraInd,
    .oraDpX, .oraAbsY, .oraAbsX⟩ opOra :=
  AccForms.apply_of_dispatch fun _ _ _ _ _ => ⟨rfl, rfl, rfl, rfl, rfl, rfl, rfl, rfl, rfl, rfl⟩

theorem and_apply : AccForms.Apply ⟨.andSr, .andDp, .andImm, .andAbs, .andLong, .andIndY, .andInd,
    .andDpX, .andAbsY, .andAbsX⟩ opAnd :=
  AccForms.apply_of_dispatch fun _ _ _ _ _ => ⟨rfl, rfl, rfl, rfl, rfl, rfl, rfl, rfl, rfl, rfl⟩

theorem eor_apply : AccForms.Apply ⟨.eorSr, .eorDp, .eorImm, .eorAbs, .eorLong, .eorIndY, .eorInd,
    .eorDpX, .eorAbsY, .eorAbsX⟩ opEor :=
  AccForms.apply_of_dispatch fun _ _ _ _ _ => ⟨rfl, rfl, rfl, rfl, rfl, rfl, rfl, rfl, rfl, rfl⟩

theorem adc_apply : AccForms.Apply ⟨.adcSr, .adcDp, .adcImm, .adcAbs, .adcLong, .adcIndY, .adcInd,
    .adcDpX, .adcAbsY, .adcAbsX⟩ opAdc :=
  AccForms.apply_of_dispatch fun _ _ _ _ _ => ⟨rfl, rfl, rfl, rfl, rfl, rfl, rfl, rfl, rfl, rfl⟩

theorem sbc_apply : AccForms.Apply ⟨.sbcSr, .sbcDp, .sbcImm, .sbcAbs, .sbcLong, .sbcIndY, .sbcInd,
    .sbcDpX, .sbcAbsY, .sbcAbsX⟩ opSbc :=
  AccForms.apply_of_dispatch fun _ _ _ _ _ => ⟨rfl, rfl, rfl, rfl, rfl, rfl, rfl, rfl, rfl, rfl⟩

theorem cmp_apply : AccForms.Apply ⟨.cmpSr, .cmpDp, .cmpImm, .cmpAbs, .cmpLong, .cmpIndY, .cmpInd,
    .cmpDpX, .cmpAbsY, .cmpAbsX⟩ opCmp :=
  AccForms.apply_of_dispatch fun _ _ _ _ _ => ⟨rfl, rfl, rfl, rfl, rfl, rfl, rfl, rfl, rfl, rfl⟩

/-! ### Logic (R141 to R143) -/

theorem setA_eq (s : State) (v : Word) :
    s.setA v = { s with regs.a := accWrite s.widthA s.regs.a v } := by
  cases hw : s.widthA <;> simp only [State.setA, accWrite, hw]

/-- The end of every accumulator operator, for a result of the width in force. -/
theorem setANZ_eq_accResult (s : State) (r : Word) (hr : s.widthA.trunc r = r) :
    s.setANZ s.widthA r = s.accResult s.widthA r := by
  rw [State.setANZ, State.setNZ, hr, setA_eq]
  rfl

theorem opOra_result :
    OperatorResult State.widthA opOra fun w m t => t.accResult w (t.getA ||| m) := by
  intro t m hm
  exact setANZ_eq_accResult t _ (by rw [trunc_or, trunc_getA, hm])

theorem opAnd_result :
    OperatorResult State.widthA opAnd fun w m t => t.accResult w (t.getA &&& m) := by
  intro t m hm
  exact setANZ_eq_accResult t _ (by rw [trunc_and, trunc_getA, hm])

theorem opEor_result :
    OperatorResult State.widthA opEor fun w m t => t.accResult w (t.getA ^^^ m) := by
  intro t m hm
  exact setANZ_eq_accResult t _ (by rw [trunc_xor, trunc_getA, hm])

/-- Settles O23: the template of R140 around three operators that keep to the width in force. -/
theorem logicResults : Obligations.LogicResults :=
  ⟨ora_apply.readBy opOra_result, and_apply.readBy opAnd_result, eor_apply.readBy opEor_result⟩

/-! ### Arithmetic (R144, R145, R150) -/

theorem ofInt_natCast (w : Width) (n : Nat) : w.ofInt (n : Int) = w.wrap n := by
  rw [Width.ofInt, BitVec.ofInt_natCast, trunc_ofNat]

@[simp] theorem trunc_ofInt (w : Width) (r : Int) : w.trunc (w.ofInt r) = w.ofInt r :=
  trunc_trunc _ _

/-- The overflow bit (R150): the operands have one sign and the sum the other. -/
theorem overflowBit_natCast (w : Width) (a m : Word) (n : Nat) :
    overflowBit w a m (n : Int) =
      decide (a.getLsbD (w.bits - 1) = m.getLsbD (w.bits - 1) ∧
        (w.wrap n).getLsbD (w.bits - 1) ≠ a.getLsbD (w.bits - 1)) := by
  have hsum : (BitVec.ofNat 16 n).getLsbD (w.bits - 1) = (w.wrap n).getLsbD (w.bits - 1) := by
    rw [← trunc_ofNat, sign_trunc]
  rw [overflowBit, BitVec.ofInt_natCast, BitVec.getLsbD_and, BitVec.getLsbD_xor, BitVec.getLsbD_xor, hsum]
  generalize a.getLsbD _ = x, m.getLsbD _ = y, (w.wrap n).getLsbD _ = z
  revert x y z
  decide

/-- The parts of a binary addition (R144, R145), in terms of the sum `n` at full precision. -/
theorem binarySum_eq {w : Width} {a m : Word} {c : Bool} {n : Nat}
    (hn : n = a.toNat + m.toNat + c.toNat) :
    binarySum w a m c =
      { value := w.wrap n
        v := decide (a.getLsbD (w.bits - 1) = m.getLsbD (w.bits - 1) ∧
          (w.wrap n).getLsbD (w.bits - 1) ≠ a.getLsbD (w.bits - 1))
        c := decide (2 ^ w.bits ≤ n) } := by
  have hcast : (a.toNat + m.toNat + c.toNat : Int) = (n : Int) := by simp [hn]
  have hcarry : (n : Int) ≥ 2 ^ w.bits ↔ 2 ^ w.bits ≤ n := by exact_mod_cast Iff.rfl
  simp only [binarySum, hcast, ofInt_natCast, overflowBit_natCast, hcarry]

/-- The end of ADC and SBC, for a stored value of the width in force. -/
theorem setSum_eq_accResult (s : State) (r : Sum) (hr : s.widthA.trunc r.value = r.value) :
    s.setSum s.widthA r =
      { s.accResult s.widthA r.value with
        flags := { s.flags.withNZ s.widthA r.value with v := r.v, c := r.c } } := by
  rw [State.setSum, setANZ_eq_accResult s _ hr]
  rfl

/-- What ADC stores is a `w`-bit number in binary and decimal mode alike (R144, R151). -/
theorem trunc_adcSum (d : Bool) (w : Width) (a m : Word) (c : Bool) :
    w.trunc (adcSum d w a m c).value = (adcSum d w a m c).value := by
  cases d with
  | false => exact trunc_ofInt _ _
  | true => cases w <;> exact trunc_ofInt _ _

theorem trunc_sbcSum (d : Bool) (w : Width) (a m : Word) (c : Bool) :
    w.trunc (sbcSum d w a m c).value = (sbcSum d w a m c).value := by
  cases d with
  | false => exact trunc_ofInt _ _
  | true => cases w <;> exact trunc_ofInt _ _

theorem opAdc_eq_accResult (t : State) (m : Word) :
    opAdc t.widthA m t =
      let sum := adcSum t.flags.df t.widthA t.getA m t.flags.c
      { t.accResult t.widthA sum.value with
        flags := { t.flags.withNZ t.widthA sum.value with v := sum.v, c := sum.c } } :=
  setSum_eq_accResult t _ (trunc_adcSum _ _ _ _ _)

theorem opSbc_eq_accResult (t : State) (m : Word) :
    opSbc t.widthA m t =
      let sum := sbcSum t.flags.df t.widthA t.getA m t.flags.c
      { t.accResult t.widthA sum.value with
        flags := { t.flags.withNZ t.widthA sum.value with v := sum.v, c := sum.c } } :=
  setSum_eq_accResult t _ (trunc_sbcSum _ _ _ _ _)

/-- Settles O24: in decimal mode the sum is the algorithm's own, in binary mode that of `binarySum_eq`. -/
theorem adcResults : Obligations.AdcResults := by
  refine adc_apply.readBy fun t m _ => ?_
  rw [opAdc_eq_accResult]
  cases hd : t.flags.df with
  | true => cases t.widthA <;> rfl
  | false => simp only [adcSum, binarySum_eq rfl, Bool.false_eq_true, if_false]

/-- The complement at width `w` as a subtraction, the operand of the decimal algorithm (R152). -/
theorem trunc_not_eq_wrap (w : Width) (m : Word) (hm : w.trunc m = m) :
    w.trunc (~~~m) = w.wrap (2 ^ w.bits - 1 - m.toNat) := by
  rw [← toNat_trunc_not w m hm, ← trunc_ofNat, BitVec.ofNat_toNat, BitVec.setWidth_eq, trunc_trunc]

/-- Adding the complement and the carry is subtracting with borrow (R145). -/
theorem binarySum_not (w : Width) (a m : Word) (c : Bool) (hm : w.trunc m = m) :
    binarySum w a (w.trunc (~~~m)) c =
      { value := w.wrap (a.toNat + 2 ^ w.bits - m.toNat - (1 - c.toNat))
        v := decide (a.getLsbD (w.bits - 1) ≠ m.getLsbD (w.bits - 1) ∧
          (w.wrap (a.toNat + 2 ^ w.bits - m.toNat - (1 - c.toNat))).getLsbD (w.bits - 1) ≠
            a.getLsbD (w.bits - 1))
        c := decide (m.toNat + (1 - c.toNat) ≤ a.toNat) } := by
  have hlt := (trunc_eq_self_iff w m).mp hm
  have hc : c.toNat ≤ 1 := c.toNat_le
  have hn : a.toNat + 2 ^ w.bits - m.toNat - (1 - c.toNat) =
      a.toNat + (w.trunc (~~~m)).toNat + c.toNat := by
    rw [toNat_trunc_not w m hm]
    omega
  have hcarry : 2 ^ w.bits ≤ a.toNat + 2 ^ w.bits - m.toNat - (1 - c.toNat) ↔
      m.toNat + (1 - c.toNat) ≤ a.toNat := by omega
  simp only [binarySum_eq hn, sign_trunc_not, hcarry, Bool.eq_not]

/-- Settles O25: in decimal mode the algorithm runs on the complemented operand, in binary mode adding the
complement is subtracting with borrow. -/
theorem sbcResults : Obligations.SbcResults := by
  refine sbc_apply.readBy fun t m hm => ?_
  rw [opSbc_eq_accResult]
  cases hd : t.flags.df with
  | true =>
    simp only [sbcSum, if_true, trunc_not_eq_wrap _ m hm]
    cases t.widthA <;> rfl
  | false => simp only [sbcSum, binarySum_not _ _ m _ hm, Bool.false_eq_true, if_false]

/-! ### Comparisons (R146 to R148) -/

/-- A comparison of an operand of width `w` with anything (R146). -/
theorem compare_eq_compareResult (t : State) (w : Width) (l m : Word) (hm : w.trunc m = m) :
    t.compare w l m = t.compareResult w l m := by
  rw [State.compare, State.setNZ, trunc_sub w l m hm, trunc_wrap]
  rfl

theorem opCmp_result : OperatorResult State.widthA opCmp fun w m t => t.compareResult w t.getA m :=
  fun t m hm => compare_eq_compareResult t _ _ m hm

theorem opCpx_result :
    OperatorResult State.widthX opCpx fun w m t => t.compareResult w (w.trunc t.regs.x) m :=
  fun t m hm => compare_eq_compareResult t _ _ m hm

theorem opCpy_result :
    OperatorResult State.widthX opCpy fun w m t => t.compareResult w (w.trunc t.regs.y) m :=
  fun t m hm => compare_eq_compareResult t _ _ m hm

theorem cpx_applies (off : Byte) (addr : Word) :
    ∀ f ∈ [(Instr.cpxDp off, Mode.dp off), (.cpxAbs addr, .abs addr)],
      AppliesRead State.widthX opCpx f := by
  simp only [List.mem_cons, List.not_mem_nil, or_false]
  rintro f (rfl | rfl) <;> exact fun _ => rfl

theorem cpxImm_applies : AppliesImmediate State.widthX opCpx .cpxImm := fun _ _ => rfl

theorem cpy_applies (off : Byte) (addr : Word) :
    ∀ f ∈ [(Instr.cpyDp off, Mode.dp off), (.cpyAbs addr, .abs addr)],
      AppliesRead State.widthX opCpy f := by
  simp only [List.mem_cons, List.not_mem_nil, or_false]
  rintro f (rfl | rfl) <;> exact fun _ => rfl

theorem cpyImm_applies : AppliesImmediate State.widthX opCpy .cpyImm := fun _ _ => rfl

/-- Settles O26: the three mnemonics share the comparison and differ in the register and its width. -/
theorem compareResults : Obligations.CompareResults :=
  ⟨cmp_apply.readBy opCmp_result,
    fun off addr f hf => (cpx_applies off addr f hf).readsBy flagWidth_widthX opCpx_result,
    cpxImm_applies.immediateBy flagWidth_widthX opCpx_result,
    fun off addr f hf => (cpy_applies off addr f hf).readsBy flagWidth_widthX opCpy_result,
    cpyImm_applies.immediateBy flagWidth_widthX opCpy_result⟩

/-! ### BIT (R149) -/

theorem bit_applies (off : Byte) (addr : Word) :
    ∀ f ∈ [(Instr.bitDp off, Mode.dp off), (.bitAbs addr, .abs addr), (.bitDpX off, .dpx off),
        (.bitAbsX addr, .abx addr)],
      AppliesRead State.widthA opBit f := by
  simp only [List.mem_cons, List.not_mem_nil, or_false]
  rintro f (rfl | rfl | rfl | rfl) <;> exact fun _ => rfl

theorem bitImm_applies : AppliesImmediate State.widthA opBitImm .bitImm := fun _ _ => rfl

/-- Settles O27: the operator of the memory forms copies the two top bits, that of the immediate form does
not. -/
theorem bitResults : Obligations.BitResults :=
  ⟨fun off addr f hf => (bit_applies off addr f hf).readsBy flagWidth_widthA fun _ _ _ => rfl,
    bitImm_applies.immediateBy flagWidth_widthA fun _ _ _ => rfl⟩

end Sys2Proof.Machine
end

section
/-! PROOFS. Loads, stores and register transfers (42_move_load.md R160 to R182): a load is the template of
R140 and a store that of R160, a transfer is an implied instruction, and what is left to prove is the effect
of each on its destination and on N and Z. -/

namespace Sys2Proof.Machine

open Sys2Proof

/-! ### N and Z with the register they are of -/

/-- The model's N and Z are those of 00_scope.md R10 for a value of the width in force. -/
theorem setNZ_eq_withNZ (s : State) {w : Width} {r : Word} (hr : w.trunc r = r) :
    s.setNZ w r = s.withNZ w r := by
  rw [State.setNZ, hr]
  rfl

/-- A write of X with its flags, at the width of the index registers (10_state.md R23). -/
theorem setXNZ_eq_xResult (s : State) (v : Word) :
    s.setXNZ v = s.xResult s.widthX (s.widthX.trunc v) := by
  rw [State.setXNZ, setNZ_eq_withNZ _ (trunc_trunc _ _)]
  rfl

theorem setYNZ_eq_yResult (s : State) (v : Word) :
    s.setYNZ v = s.yResult s.widthX (s.widthX.trunc v) := by
  rw [State.setYNZ, setNZ_eq_withNZ _ (trunc_trunc _ _)]
  rfl

/-- An accumulator write of all 16 bits with its flags, whatever M is (R179, R181). -/
theorem setNZ_w16_eq_accResult (s : State) (v : Word) :
    { s with regs.a := v }.setNZ .w16 v = s.accResult .w16 v := by
  rw [setNZ_eq_withNZ _ (trunc_w16 v)]
  rfl

/-- A write of S keeps page 1 while E = 1 and touches no flag (10_state.md R24). -/
theorem setS_eq_pageFixed (s : State) (v : Word) :
    s.setS v = { s with regs.s := pageFixed s.flags.e v } := rfl

/-! ### Loads (R161 to R163) -/

theorem lda_apply : AccForms.Apply ⟨.ldaSr, .ldaDp, .ldaImm, .ldaAbs, .ldaLong, .ldaIndY, .ldaInd,
    .ldaDpX, .ldaAbsY, .ldaAbsX⟩ opLda :=
  AccForms.apply_of_dispatch fun _ _ _ _ _ => ⟨rfl, rfl, rfl, rfl, rfl, rfl, rfl, rfl, rfl, rfl⟩

theorem ldx_applies (off : Byte) (addr : Word) :
    ∀ f ∈ [(Instr.ldxDp off, Mode.dp off), (.ldxAbs addr, .abs addr), (.ldxDpY off, .dpy off),
        (.ldxAbsY addr, .aby addr)],
      AppliesRead State.widthX opLdx f := by
  simp only [List.mem_cons, List.not_mem_nil, or_false]
  rintro f (rfl | rfl | rfl | rfl) <;> exact fun _ => rfl

theorem ldxImm_applies : AppliesImmediate State.widthX opLdx .ldxImm := fun _ _ => rfl

theorem ldy_applies (off : Byte) (addr : Word) :
    ∀ f ∈ [(Instr.ldyDp off, Mode.dp off), (.ldyAbs addr, .abs addr), (.ldyDpX off, .dpx off),
        (.ldyAbsX addr, .abx addr)],
      AppliesRead State.widthX opLdy f := by
  simp only [List.mem_cons, List.not_mem_nil, or_false]
  rintro f (rfl | rfl | rfl | rfl) <;> exact fun _ => rfl

theorem ldyImm_applies : AppliesImmediate State.widthX opLdy .ldyImm := fun _ _ => rfl

theorem opLda_result : OperatorResult State.widthA opLda fun w m t => t.accResult w m :=
  fun t _ hm => setANZ_eq_accResult t _ hm

/-- LDX is the transfer of an operand that already has the width of X. -/
theorem opLdx_result : OperatorResult State.widthX opLdx fun w m t => t.xResult w m := by
  intro t m hm
  have hset : t.setXNZ m = t.xResult t.widthX m := by rw [setXNZ_eq_xResult, hm]
  rwa [State.setXNZ, hm] at hset

theorem opLdy_result : OperatorResult State.widthX opLdy fun w m t => t.yResult w m := by
  intro t m hm
  have hset : t.setYNZ m = t.yResult t.widthX m := by rw [setYNZ_eq_yResult, hm]
  rwa [State.setYNZ, hm] at hset

/-- Settles O28: an operand of the width in force goes into its register unchanged. -/
theorem loadResults : Obligations.LoadResults :=
  ⟨lda_apply.readBy opLda_result,
    fun off addr f hf => (ldx_applies off addr f hf).readsBy flagWidth_widthX opLdx_result,
    ldxImm_applies.immediateBy flagWidth_widthX opLdx_result,
    fun off addr f hf => (ldy_applies off addr f hf).readsBy flagWidth_widthX opLdy_result,
    ldyImm_applies.immediateBy flagWidth_widthX opLdy_result⟩

/-! ### Stores (R164 to R167) -/

/-- The instruction is the template of 42_move_load.md R160 around the value. -/
def AppliesStore (w : State → Width) (value : State → Word) (f : Instr × Mode) : Prop :=
  ∀ s : State, exec f.1 s = complete (storeInstr w f.2 value) s

/-- The value is one that the bus calls before the write leave alone (R160). -/
def CallsKeep (value : State → Word) : Prop :=
  ∀ (s : State) (len : Nat) (cs : List BusCall), value (s.afterCalls len cs) = value s

/-- The template writes the value, as it is in the state before, to the two bytes of the mode's address; these
are apart, so neither write undoes the other. -/
theorem AppliesStore.storesBy {w : State → Width} {value : State → Word} {f : Instr × Mode}
    (hf : AppliesStore w value f) (hw : FlagWidth w) (hv : CallsKeep value) :
    StoresBy w value f := by
  intro s
  refine ⟨?next, fun hwf => stored_at s.mem _ _ _ hwf (effAddr_apart s f.2)⟩
  case next =>
    rw [hf s, complete_next]
    exact storeInstr_run w f.2 value s (fun _ _ => hw _ _ rfl) (hv s)

theorem sta_applies (off : Byte) (addr : Word) (al : Addr) :
    ∀ f ∈ [(Instr.staSr off, Mode.sr off), (.staDp off, .dp off), (.staAbs addr, .abs addr),
        (.staLong al, .abl al), (.staIndY off, .iny off), (.staInd off, .ind off), (.staDpX off, .dpx off),
        (.staAbsY addr, .aby addr), (.staAbsX addr, .abx addr)],
      AppliesStore State.widthA State.getA f := by
  simp only [List.mem_cons, List.not_mem_nil, or_false]
  rintro f (rfl | rfl | rfl | rfl | rfl | rfl | rfl | rfl | rfl) <;> exact fun _ => rfl

theorem stx_applies (off : Byte) (addr : Word) :
    ∀ f ∈ [(Instr.stxDp off, Mode.dp off), (.stxAbs addr, .abs addr), (.stxDpY off, .dpy off)],
      AppliesStore State.widthX (fun s => s.widthX.trunc s.regs.x) f := by
  simp only [List.mem_cons, List.not_mem_nil, or_false]
  rintro f (rfl | rfl | rfl) <;> exact fun _ => rfl

theorem sty_applies (off : Byte) (addr : Word) :
    ∀ f ∈ [(Instr.styDp off, Mode.dp off), (.styAbs addr, .abs addr), (.styDpX off, .dpx off)],
      AppliesStore State.widthX (fun s => s.widthX.trunc s.regs.y) f := by
  simp only [List.mem_cons, List.not_mem_nil, or_false]
  rintro f (rfl | rfl | rfl) <;> exact fun _ => rfl

theorem stz_applies (off : Byte) (addr : Word) :
    ∀ f ∈ [(Instr.stzDp off, Mode.dp off), (.stzDpX off, .dpx off), (.stzAbs addr, .abs addr),
        (.stzAbsX addr, .abx addr)],
      AppliesStore State.widthA (fun _ => 0) f := by
  simp only [List.mem_cons, List.not_mem_nil, or_false]
  rintro f (rfl | rfl | rfl | rfl) <;> exact fun _ => rfl

/-- Settles O29: the four mnemonics share the template and differ in the width and in the value, a register
that no bus call writes, or 0. -/
theorem storeResults : Obligations.StoreResults := fun off addr al =>
  ⟨fun f hf => (sta_applies off addr al f hf).storesBy flagWidth_widthA State.getA_afterCalls,
    fun f hf => (stx_applies off addr f hf).storesBy flagWidth_widthX fun _ _ _ => rfl,
    fun f hf => (sty_applies off addr f hf).storesBy flagWidth_widthX fun _ _ _ => rfl,
    fun f hf => (stz_applies off addr f hf).storesBy flagWidth_widthA fun _ _ _ => rfl⟩

/-! ### Transfers (R170 to R181) -/

/-- An instruction that `exec` dispatches to the implied template does to the state what its effect does
(40_addressing_modes.md R120). -/
theorem impliedBy_of_effect {i : Instr} {effect result : State → State}
    (hi : ∀ s, exec i s = complete (impliedInstr effect) s) (heffect : ∀ t, effect t = result t) :
    ImpliedBy i result := by
  intro s
  rw [hi s, complete_next, impliedInstr_run, heffect]

/-- Settles O30: each is a write of X or Y, truncated to the width of the index registers. -/
theorem indexTransfers : Obligations.IndexTransfers :=
  ⟨impliedBy_of_effect (fun _ => rfl) fun t => setXNZ_eq_xResult t t.regs.a,
    impliedBy_of_effect (fun _ => rfl) fun t => setYNZ_eq_yResult t t.regs.a,
    impliedBy_of_effect (fun _ => rfl) fun t => setXNZ_eq_xResult t t.regs.s,
    impliedBy_of_effect (fun _ => rfl) fun t => setYNZ_eq_yResult t t.regs.x,
    impliedBy_of_effect (fun _ => rfl) fun t => setXNZ_eq_xResult t t.regs.y⟩

/-- Settles O31: the writes of A at the width of M or in all 16 bits, of D, and of S without flags. -/
theorem accStackTransfers : Obligations.AccStackTransfers := by
  refine ⟨?txa, ?tya, ?tcd, ?tdc, ?tsc, ?txs, ?tcs⟩
  case txa =>
    exact impliedBy_of_effect (fun _ => rfl) fun t => setANZ_eq_accResult t _ (trunc_trunc _ _)
  case tya =>
    exact impliedBy_of_effect (fun _ => rfl) fun t => setANZ_eq_accResult t _ (trunc_trunc _ _)
  case tcd => exact impliedBy_of_effect (fun _ => rfl) fun t => setNZ_eq_withNZ _ (trunc_w16 t.regs.a)
  case tdc => exact impliedBy_of_effect (fun _ => rfl) fun t => setNZ_w16_eq_accResult t t.regs.d
  case tsc => exact impliedBy_of_effect (fun _ => rfl) fun t => setNZ_w16_eq_accResult t t.regs.s
  case txs => exact impliedBy_of_effect (fun _ => rfl) fun t => setS_eq_pageFixed t t.regs.x
  case tcs => exact impliedBy_of_effect (fun _ => rfl) fun t => setS_eq_pageFixed t t.regs.a

/-! ### XBA (R182) -/

/-- A byte, zero-extended, is its own truncation at 8 bits. -/
theorem trunc_w8_zeroExt (b : Byte) : Width.w8.trunc (zeroExt b) = zeroExt b := by
  rw [trunc_w8, lowByte_zeroExt]

/-- XBA makes its three bus calls, polls before the last, and then exchanges the bytes. -/
theorem exchangeBytes_run (s : State) :
    (exchangeBytes s).2 =
      State.setNZ .w8 (zeroExt (highByte s.regs.a))
        { s.ranThrough 1 (s.fetchCalls 1 ++ [.idle, .idle]) s.flags.i with
          regs.a := joinBytes (lowByte s.regs.a) (highByte s.regs.a) } := by
  simp only [exchangeBytes, core_bind, fetch_first, core_busIdle, core_poll, core_update]
  simp [State.afterCalls, State.ranThrough]

/-- Settles O32: N and Z are of a byte, so they are those at 8 bits. -/
theorem xbaResult : Obligations.XbaResult := by
  intro s
  have hexec : exec .xba s = complete exchangeBytes s := rfl
  rw [hexec, complete_next, exchangeBytes_run, setNZ_eq_withNZ _ (trunc_w8_zeroExt _)]
  rfl

end Sys2Proof.Machine
end

section
/-! PROOFS. The modify instructions (43_modify.md R200 to R212): each form is the template of R200 around one
operator, on memory or on the accumulator, so what is left to prove of a mnemonic is that its operator is the
arithmetic of its rule on operands of the width in force. -/

namespace Sys2Proof.Machine

open Sys2Proof

/-! ### The template of R200 -/

/-- The instruction is the template of 43_modify.md R200 on memory around the operator. -/
def AppliesModify (op : ModifyOp) (f : Instr × Mode) : Prop :=
  ∀ s : State, exec f.1 s = complete (modifyInstr f.2 op) s

/-- The instruction is the template of R200 on the accumulator around the operator. -/
def AppliesToAcc (op : ModifyOp) (i : Instr) : Prop :=
  ∀ s : State, exec i s = complete (accumulatorInstr op) s

/-- The operator gives the value and the flags of `result` for every operand of the width in force, and these
flags keep I, which the poll before the last write reads, and M, the width at which the result is written. -/
structure ModifierResult (op : ModifyOp) (result : Width → Word → Word → Flags → Word × Flags) : Prop where
  apply : ∀ (t : State) (v : Word), t.widthA.trunc v = v →
    op t.widthA v t =
      ((result t.widthA v t.getA t.flags).1, { t with flags := (result t.widthA v t.getA t.flags).2 })
  keeps_i : ∀ w v a f, (result w v a f).2.i = f.i
  keeps_m : ∀ w v a f, (result w v a f).2.m = f.m

theorem trunc_modifyValue (s : State) (mode : Mode) (w : Width) :
    w.trunc (s.modifyValue mode w) = s.modifyValue mode w := trunc_operandAt _ _ _ _

/-- A at the width in force is a matter of A and of M. -/
theorem getA_congr {s t : State} (ha : t.regs.a = s.regs.a) (hf : t.flags = s.flags) :
    t.getA = s.getA := by
  rw [State.getA, State.getA, flagWidth_widthA s t hf, ha]

/-- The operator runs between the reads and the writes, where A and the flags are still those of the state
before; the two bytes of the mode's address are apart, so no write undoes another (40_addressing_modes.md
R125). -/
theorem AppliesModify.modifiesBy {op : ModifyOp} {f : Instr × Mode}
    {result : Width → Word → Word → Flags → Word × Flags} (hf : AppliesModify op f)
    (hop : ModifierResult op result) : ModifiesBy result f := by
  intro s
  refine ⟨?next, fun hwf => modified_at s.mem _ _ _ _ _ hwf (effAddr_apart s f.2)⟩
  case next =>
    rw [hf s, complete_next]
    refine modifyInstr_run f.2 op s _ _ (hop.keeps_i _ _ _ _) fun t ha hflags => ?_
    have happly := hop.apply t (s.modifyValue f.2 s.widthA)
    rw [flagWidth_widthA s t hflags, getA_congr ha hflags, hflags] at happly
    exact happly (trunc_modifyValue _ _ _)

/-- On the accumulator the operand is A itself, and the result goes back at the same width. -/
theorem AppliesToAcc.accModifiedBy {op : ModifyOp} {i : Instr}
    {result : Width → Word → Word → Flags → Word × Flags} (hi : AppliesToAcc op i)
    (hop : ModifierResult op result) : AccModifiedBy i result := by
  refine impliedBy_of_effect hi fun t => ?_
  have hwidth : ({ t with flags := (result t.widthA t.getA t.getA t.flags).2 } : State).widthA =
      t.widthA := by
    rw [State.widthA, hop.keeps_m]
    rfl
  rw [hop.apply t t.getA (trunc_getA t), setA_eq, hwidth]

/-! ### The arithmetic of the shifts and steps -/

/-- A 16-bit result that is `n` modulo `2^16` is `n` modulo `2^w` once truncated. -/
theorem trunc_eq_wrap {v : Word} {n : Nat} (h : v.toNat = n % 2 ^ 16) (w : Width) :
    w.trunc v = w.wrap n := by
  rw [← trunc_ofNat, ← BitVec.toNat_inj.mp ((BitVec.toNat_ofNat n 16).trans h.symm)]

/-- A word that is a `w`-bit number is that number modulo `2^w`. -/
theorem eq_wrap_of_toNat {w : Width} {v : Word} {n : Nat} (h : v.toNat = n) (hn : n < 2 ^ w.bits) :
    v = w.wrap n := by
  apply BitVec.eq_of_toNat_eq
  rw [toNat_wrap, h, Nat.mod_eq_of_lt hn]

theorem toNat_carryWord_zero (c : Bool) : (carryWord c 0).toNat = c.toNat := by
  cases c <;> rfl

/-- The carry moved into the sign bit of a `w`-bit value. -/
theorem toNat_carryWord_sign (w : Width) (c : Bool) :
    (carryWord c (w.bits - 1)).toNat = c.toNat * 2 ^ (w.bits - 1) := by
  cases w <;> cases c <;> rfl

theorem toNat_shiftLeft_one (v : Word) : (v <<< 1).toNat = 2 * v.toNat % 2 ^ 16 := by
  rw [BitVec.toNat_shiftLeft, Nat.shiftLeft_eq, pow_one, Nat.mul_comm]

theorem toNat_shiftRight_one (v : Word) : (v >>> 1).toNat = v.toNat / 2 := by
  rw [BitVec.toNat_ushiftRight, Nat.shiftRight_eq_div_pow, pow_one]

/-- The carry enters at bit 0, which the shift has left empty (R203). -/
theorem toNat_rotateLeft (v : Word) (c : Bool) :
    (v <<< 1 ||| carryWord c 0).toNat = (2 * v.toNat + c.toNat) % 2 ^ 16 := by
  have hor : v.toNat <<< 1 ||| c.toNat = v.toNat <<< 1 + c.toNat :=
    (Nat.shiftLeft_add_eq_or_of_lt (by cases c <;> decide) _).symm
  have hcarry : c.toNat = c.toNat % 2 ^ 16 := by cases c <;> rfl
  rw [BitVec.toNat_or, BitVec.toNat_shiftLeft, toNat_carryWord_zero, hcarry, ← Nat.or_mod_two_pow, hor,
    ← hcarry, Nat.shiftLeft_eq, pow_one, Nat.mul_comm]

/-- The carry enters at the sign bit, which the shift of a `w`-bit value has left empty (R204). -/
theorem toNat_rotateRight {w : Width} {v : Word} (hv : w.trunc v = v) (c : Bool) :
    (v >>> 1 ||| carryWord c (w.bits - 1)).toNat = v.toNat / 2 + c.toNat * 2 ^ (w.bits - 1) := by
  rw [trunc_eq_self_iff] at hv
  have hhalf : v.toNat / 2 < 2 ^ (w.bits - 1) := by
    cases w <;> simp only [bits_w8, bits_w16] at hv ⊢ <;> omega
  rw [BitVec.toNat_or, toNat_shiftRight_one, toNat_carryWord_sign, Nat.or_comm, ← Nat.shiftLeft_eq,
    ← Nat.shiftLeft_add_eq_or_of_lt hhalf, Nat.add_comm]

/-- The bit a left shift drops is the carry of doubling (R201, R203). -/
theorem sign_eq_doubleCarry {w : Width} {v : Word} (hv : w.trunc v = v) :
    w.sign v = decide (2 ^ w.bits ≤ 2 * v.toNat) := by
  rw [trunc_eq_self_iff] at hv
  rw [Width.sign, BitVec.getLsbD, Nat.testBit_eq_decide_div_mod_eq, decide_eq_decide]
  cases w <;> simp only [bits_w8, bits_w16] at hv ⊢ <;> omega

/-- The bit a right shift drops is the remainder of halving (R202, R204). -/
theorem getLsbD_zero_eq_odd (v : Word) : v.getLsbD 0 = decide (v.toNat % 2 = 1) :=
  Nat.testBit_zero _

/-- Half of a `w`-bit value has a clear sign bit (R202). -/
theorem sign_shiftRight_one {w : Width} {v : Word} (hv : w.trunc v = v) : w.sign (v >>> 1) = false := by
  rw [trunc_eq_self_iff] at hv
  rw [Width.sign, BitVec.getLsbD, toNat_shiftRight_one]
  apply Nat.testBit_lt_two_pow
  cases w <;> simp only [bits_w8, bits_w16] at hv ⊢ <;> omega

theorem shiftRight_one_eq_wrap {w : Width} {v : Word} (hv : w.trunc v = v) :
    v >>> 1 = w.wrap (v.toNat / 2) :=
  eq_wrap_of_toNat (toNat_shiftRight_one v)
    ((Nat.div_le_self _ _).trans_lt ((trunc_eq_self_iff w v).mp hv))

theorem shiftRight_one_eq_zero_iff (v : Word) : v >>> 1 = 0 ↔ v.toNat < 2 := by
  rw [← BitVec.toNat_inj, toNat_shiftRight_one]
  exact Nat.div_eq_zero_iff_lt (by decide)

theorem rotateRight_eq_wrap {w : Width} {v : Word} (hv : w.trunc v = v) (c : Bool) :
    v >>> 1 ||| carryWord c (w.bits - 1) = w.wrap (v.toNat / 2 + c.toNat * 2 ^ (w.bits - 1)) := by
  refine eq_wrap_of_toNat (toNat_rotateRight hv c) ?_
  rw [trunc_eq_self_iff] at hv
  have hc : c.toNat ≤ 1 := c.toNat_le
  cases w <;> simp only [bits_w8, bits_w16] at hv ⊢ <;> omega

theorem trunc_add_one (w : Width) (v : Word) : w.trunc (v + 1) = w.wrap (v.toNat + 1) :=
  trunc_eq_wrap (BitVec.toNat_add v 1) w

/-- Subtracting one is adding `2^16 - 1` (R209, R210). -/
theorem trunc_sub_one (w : Width) (v : Word) : w.trunc (v - 1) = w.wrap (v.toNat + 65535) := by
  refine trunc_eq_wrap ?_ w
  rw [BitVec.toNat_sub, Nat.add_comm]
  rfl

/-- A `w`-bit value has no bit beyond the complement at width `w` (R212). -/
theorem and_trunc {w : Width} {v : Word} (hv : w.trunc v = v) (m : Word) :
    v &&& w.trunc m = v &&& m := by
  apply BitVec.eq_of_getLsbD_eq
  intro i _
  have hbit : v.getLsbD i = (decide (i < w.bits) && v.getLsbD i) := by rw [← getLsbD_trunc, hv]
  rw [BitVec.getLsbD_and, BitVec.getLsbD_and, getLsbD_trunc, hbit]
  cases decide (i < w.bits) <;> simp

/-- C, then N and Z of a result of the width in force: the end of every shift (R201 to R204). -/
theorem setNZ_setC (s : State) (c : Bool) {w : Width} {r : Word} (hr : w.trunc r = r) :
    (s.setC c).setNZ w r = { s with flags := { s.flags.withNZ w r with c := c } } := by
  rw [setNZ_eq_withNZ _ hr]
  rfl

/-! ### The shifts (R201 to R204) -/

theorem opAsl_result : ModifierResult opAsl aslResult where
  apply t v hv := by
    have hr : t.widthA.trunc (v <<< 1) = t.widthA.wrap (2 * v.toNat) :=
      trunc_eq_wrap (toNat_shiftLeft_one v) _
    simp only [opAsl, aslResult, hr, setNZ_setC _ _ (trunc_wrap _ _), sign_eq_doubleCarry hv]
  keeps_i _ _ _ _ := rfl
  keeps_m _ _ _ _ := rfl

theorem opLsr_result : ModifierResult opLsr lsrResult where
  apply t v hv := by
    have hr := shiftRight_one_eq_wrap hv
    have htrunc : t.widthA.trunc (v >>> 1) = v >>> 1 := by rw [hr, trunc_wrap]
    have hflags : t.flags.withNZ t.widthA (v >>> 1) =
        { t.flags with n := false, z := decide (v.toNat < 2) } := by
      rw [Flags.withNZ, decide_eq_decide.mpr (shiftRight_one_eq_zero_iff v), ← sign_shiftRight_one hv]
      rfl
    simp only [opLsr, lsrResult, setNZ_setC _ _ htrunc, hflags, ← hr, getLsbD_zero_eq_odd]
  keeps_i _ _ _ _ := rfl
  keeps_m _ _ _ _ := rfl

theorem opRol_result : ModifierResult opRol rolResult where
  apply t v hv := by
    have hr : t.widthA.trunc (v <<< 1 ||| carryWord t.flags.c 0) =
        t.widthA.wrap (2 * v.toNat + t.flags.c.toNat) := trunc_eq_wrap (toNat_rotateLeft v _) _
    simp only [opRol, rolResult, hr, setNZ_setC _ _ (trunc_wrap _ _), sign_eq_doubleCarry hv]
  keeps_i _ _ _ _ := rfl
  keeps_m _ _ _ _ := rfl

theorem opRor_result : ModifierResult opRor rorResult where
  apply t v hv := by
    simp only [opRor, rorResult, rotateRight_eq_wrap hv, setNZ_setC _ _ (trunc_wrap _ _),
      getLsbD_zero_eq_odd]
  keeps_i _ _ _ _ := rfl
  keeps_m _ _ _ _ := rfl

theorem asl_applies (off : Byte) (addr : Word) :
    ∀ f ∈ [(Instr.aslDp off, Mode.dp off), (.aslAbs addr, .abs addr), (.aslDpX off, .dpx off),
        (.aslAbsX addr, .abx addr)], AppliesModify opAsl f := by
  simp only [List.mem_cons, List.not_mem_nil, or_false]
  rintro f (rfl | rfl | rfl | rfl) <;> exact fun _ => rfl

theorem lsr_applies (off : Byte) (addr : Word) :
    ∀ f ∈ [(Instr.lsrDp off, Mode.dp off), (.lsrAbs addr, .abs addr), (.lsrDpX off, .dpx off),
        (.lsrAbsX addr, .abx addr)], AppliesModify opLsr f := by
  simp only [List.mem_cons, List.not_mem_nil, or_false]
  rintro f (rfl | rfl | rfl | rfl) <;> exact fun _ => rfl

theorem rol_applies (off : Byte) (addr : Word) :
    ∀ f ∈ [(Instr.rolDp off, Mode.dp off), (.rolAbs addr, .abs addr), (.rolDpX off, .dpx off),
        (.rolAbsX addr, .abx addr)], AppliesModify opRol f := by
  simp only [List.mem_cons, List.not_mem_nil, or_false]
  rintro f (rfl | rfl | rfl | rfl) <;> exact fun _ => rfl

theorem ror_applies (off : Byte) (addr : Word) :
    ∀ f ∈ [(Instr.rorDp off, Mode.dp off), (.rorAbs addr, .abs addr), (.rorDpX off, .dpx off),
        (.rorAbsX addr, .abx addr)], AppliesModify opRor f := by
  simp only [List.mem_cons, List.not_mem_nil, or_false]
  rintro f (rfl | rfl | rfl | rfl) <;> exact fun _ => rfl

theorem aslAcc_applies : AppliesToAcc opAsl .aslAcc := fun _ => rfl

theorem lsrAcc_applies : AppliesToAcc opLsr .lsrAcc := fun _ => rfl

theorem rolAcc_applies : AppliesToAcc opRol .rolAcc := fun _ => rfl

theorem rorAcc_applies : AppliesToAcc opRor .rorAcc := fun _ => rfl

/-- Settles O33: the four operators are doubling and halving, without and with the carry that enters. -/
theorem shiftResults : Obligations.ShiftResults :=
  ⟨fun off addr =>
    ⟨fun f hf => (asl_applies off addr f hf).modifiesBy opAsl_result,
      fun f hf => (lsr_applies off addr f hf).modifiesBy opLsr_result,
      fun f hf => (rol_applies off addr f hf).modifiesBy opRol_result,
      fun f hf => (ror_applies off addr f hf).modifiesBy opRor_result⟩,
    aslAcc_applies.accModifiedBy opAsl_result,
    lsrAcc_applies.accModifiedBy opLsr_result,
    rolAcc_applies.accModifiedBy opRol_result,
    rorAcc_applies.accModifiedBy opRor_result⟩

/-! ### INC and DEC (R205, R206) -/

theorem opInc_result : ModifierResult opInc incResult where
  apply t v _ := by
    simp only [opInc, incResult, trunc_add_one, setNZ_eq_withNZ _ (trunc_wrap _ _), State.withNZ]
  keeps_i _ _ _ _ := rfl
  keeps_m _ _ _ _ := rfl

theorem opDec_result : ModifierResult opDec decResult where
  apply t v _ := by
    have hr : t.widthA.trunc (v - 1) = t.widthA.wrap (v.toNat + 2 ^ t.widthA.bits - 1) :=
      trunc_sub _ v 1 (by cases t.widthA <;> rfl)
    simp only [opDec, decResult, hr, setNZ_eq_withNZ _ (trunc_wrap _ _), State.withNZ]
  keeps_i _ _ _ _ := rfl
  keeps_m _ _ _ _ := rfl

theorem inc_applies (off : Byte) (addr : Word) :
    ∀ f ∈ [(Instr.incDp off, Mode.dp off), (.incAbs addr, .abs addr), (.incDpX off, .dpx off),
        (.incAbsX addr, .abx addr)], AppliesModify opInc f := by
  simp only [List.mem_cons, List.not_mem_nil, or_false]
  rintro f (rfl | rfl | rfl | rfl) <;> exact fun _ => rfl

theorem dec_applies (off : Byte) (addr : Word) :
    ∀ f ∈ [(Instr.decDp off, Mode.dp off), (.decAbs addr, .abs addr), (.decDpX off, .dpx off),
        (.decAbsX addr, .abx addr)], AppliesModify opDec f := by
  simp only [List.mem_cons, List.not_mem_nil, or_false]
  rintro f (rfl | rfl | rfl | rfl) <;> exact fun _ => rfl

theorem incAcc_applies : AppliesToAcc opInc .incAcc := fun _ => rfl

theorem decAcc_applies : AppliesToAcc opDec .decAcc := fun _ => rfl

/-- Settles O34: the two operators are the sum and the difference with one modulo `2^w`, and write no C. -/
theorem incDecResults : Obligations.IncDecResults :=
  ⟨fun off addr =>
    ⟨fun f hf => (inc_applies off addr f hf).modifiesBy opInc_result,
      fun f hf => (dec_applies off addr f hf).modifiesBy opDec_result⟩,
    incAcc_applies.accModifiedBy opInc_result,
    decAcc_applies.accModifiedBy opDec_result⟩

/-! ### TSB and TRB (R211, R212) -/

theorem opTsb_result : ModifierResult opTsb tsbResult where
  apply _ _ _ := rfl
  keeps_i _ _ _ _ := rfl
  keeps_m _ _ _ _ := rfl

theorem opTrb_result : ModifierResult opTrb trbResult where
  apply t v hv := by
    rw [opTrb, and_trunc hv]
    rfl
  keeps_i _ _ _ _ := rfl
  keeps_m _ _ _ _ := rfl

theorem tsb_applies (off : Byte) (addr : Word) :
    ∀ f ∈ [(Instr.tsbDp off, Mode.dp off), (.tsbAbs addr, .abs addr)], AppliesModify opTsb f := by
  simp only [List.mem_cons, List.not_mem_nil, or_false]
  rintro f (rfl | rfl) <;> exact fun _ => rfl

theorem trb_applies (off : Byte) (addr : Word) :
    ∀ f ∈ [(Instr.trbDp off, Mode.dp off), (.trbAbs addr, .abs addr)], AppliesModify opTrb f := by
  simp only [List.mem_cons, List.not_mem_nil, or_false]
  rintro f (rfl | rfl) <;> exact fun _ => rfl

/-- Settles O35: the complement at the width in force clears the same bits of the operand as the 16-bit
complement, and both operators write Z alone. -/
theorem testAndSetResults : Obligations.TestAndSetResults := fun off addr =>
  ⟨fun f hf => (tsb_applies off addr f hf).modifiesBy opTsb_result,
    fun f hf => (trb_applies off addr f hf).modifiesBy opTrb_result⟩

/-! ### INX, INY, DEX, DEY (R207 to R210) -/

/-- Settles O36: each is a write of X or Y, and its sum is taken modulo `2^wX` by the write itself. -/
theorem indexIncDecResults : Obligations.IndexIncDecResults := by
  refine ⟨?inx, ?iny, ?dex, ?dey⟩
  case inx =>
    exact impliedBy_of_effect (fun _ => rfl) fun t => by rw [setXNZ_eq_xResult, trunc_add_one]
  case iny =>
    exact impliedBy_of_effect (fun _ => rfl) fun t => by rw [setYNZ_eq_yResult, trunc_add_one]
  case dex =>
    exact impliedBy_of_effect (fun _ => rfl) fun t => by rw [setXNZ_eq_xResult, trunc_sub_one]
  case dey =>
    exact impliedBy_of_effect (fun _ => rfl) fun t => by rw [setYNZ_eq_yResult, trunc_sub_one]

end Sys2Proof.Machine
end

section
/-! PROOFS. The branches (44_branch.md R220 to R229): every one is the body of R220 around its predicate, so
the body is run once, and what is left to prove of a branch is which flag its predicate reads. -/

namespace Sys2Proof.Machine

open Sys2Proof

/-! ### Running one more call after a list of calls -/

/-- The fetch of byte `k` of an instruction, after the fetches of the bytes before it (10_state.md R27). -/
theorem fetch_afterCalls (s : State) (k : Nat) :
    (fetch (s.afterCalls k (s.fetchCalls k))).2 = s.afterCalls (k + 1) (s.fetchCalls (k + 1)) := by
  simp [State.afterCalls, State.fetchCalls, State.readCall, State.codeAddr, State.fetchAddr,
    List.range_succ, BitVec.ofNat_add, BitVec.add_assoc]

/-- An idle call after the calls `cs`. -/
theorem busIdle_afterCalls (s : State) (len : Nat) (cs : List BusCall) :
    (busIdle (s.afterCalls len cs)).2 = s.afterCalls len (cs ++ [.idle]) := by
  simp [State.afterCalls]

/-- `POLL` and then the fetch of byte `k`, as the last call of the instruction (60_exceptions.md R299). -/
theorem fetch_poll_afterCalls (s : State) (k : Nat) :
    (fetch (poll (s.afterCalls k (s.fetchCalls k))).2).2 =
      s.ranThrough (k + 1) (s.fetchCalls (k + 1)) s.flags.i := by
  simp [State.ranThrough, State.afterCalls, State.fetchCalls, State.readCall, State.codeAddr,
    State.fetchAddr, List.range_succ, BitVec.ofNat_add, BitVec.add_assoc]

/-- `POLL` and then an idle call, as the last call of the instruction (60_exceptions.md R299). -/
theorem busIdle_poll_afterCalls (s : State) (len : Nat) (cs : List BusCall) :
    (busIdle (poll (s.afterCalls len cs)).2).2 = s.ranThrough len (cs ++ [.idle]) s.flags.i := by
  simp [State.ranThrough, State.afterCalls]

/-! ### The target and the page it is on -/

/-- The address of the instruction after a branch. -/
def State.branchNext (s : State) : Word := s.regs.pc + 2

/-- The target of a branch (R220): the signed displacement from the next instruction, within the bank. -/
def State.branchTarget (s : State) (disp : Byte) : Word :=
  BitVec.ofInt 16 (s.branchNext.toNat + disp.toInt)

/-- The one case of R220 that costs one idle call more. -/
abbrev State.BranchCrosses (s : State) (disp : Byte) : Prop :=
  s.flags.e = true ∧ (s.branchTarget disp).toNat / 256 ≠ s.branchNext.toNat / 256

/-- The sum of R220 modulo `2^16` is the sum of the address as a number and the displacement as a signed
number. -/
theorem add_signExt (v : Word) (disp : Byte) :
    v + signExt disp = BitVec.ofInt 16 (v.toNat + disp.toInt) := by
  rw [BitVec.ofInt_add, BitVec.ofInt_natCast, BitVec.ofNat_toNat, BitVec.setWidth_eq]
  rfl

/-- Two addresses differ in their high byte exactly where they are on different pages. -/
theorem highByte_bne_iff (a b : Word) :
    (highByte a != highByte b) = true ↔ a.toNat / 256 ≠ b.toNat / 256 := by
  rw [bne_iff_ne, ne_eq, ← BitVec.toNat_inj, toNat_highByte, toNat_highByte]

/-- The condition of the model's extra idle call is the page cross in emulation mode. -/
theorem branchCrosses_iff (s : State) (disp : Byte) :
    (s.flags.e && highByte (s.branchTarget disp) != highByte s.branchNext) = true ↔
      s.BranchCrosses disp := by
  rw [Bool.and_eq_true, highByte_bne_iff]

/-! ### The body of R220 -/

/-- Every bus call of a branch taken (R220). -/
def State.branchCallsTaken (s : State) (disp : Byte) : List BusCall :=
  s.fetchCalls 2 ++ List.replicate (if s.BranchCrosses disp then 2 else 1) .idle

/-- The state after a branch taken (R220). -/
def State.afterBranchTaken (s : State) (disp : Byte) : State :=
  { s.ranThrough 2 (s.branchCallsTaken disp) s.flags.i with regs.pc := s.branchTarget disp }

/-- The state after a branch not taken (R220). -/
def State.afterBranchNotTaken (s : State) : State := s.ranThrough 2 (s.fetchCalls 2) s.flags.i

/-- A branch not taken, after its opcode fetch. -/
theorem branchNotTaken_run (s : State) :
    (branchNotTaken (s.afterCalls 1 (s.fetchCalls 1))).2 = s.afterBranchNotTaken := by
  rw [branchNotTaken, core_bind, core_fetchOperand_one, fetch_poll_afterCalls]
  rfl

/-- The idle call that R220 makes only across a page in emulation mode, after the calls `cs`. -/
theorem crossIdle_run (s : State) (disp : Byte) (len : Nat) (cs : List BusCall) :
    (runIf (s.flags.e && highByte (s.branchTarget disp) != highByte s.branchNext) busIdle
        (s.afterCalls len cs)).2 =
      s.afterCalls len (cs ++ List.replicate (if s.BranchCrosses disp then 1 else 0) .idle) := by
  rw [core_runIf]
  by_cases hcross : s.BranchCrosses disp
  case pos =>
    rw [if_pos ((branchCrosses_iff s disp).mpr hcross), if_pos hcross, busIdle_afterCalls]
    rfl
  case neg =>
    rw [if_neg (mt (branchCrosses_iff s disp).mp hcross), if_neg hcross, List.replicate_zero,
      List.append_nil]

/-- The idle call of a page cross and the last one together. -/
theorem branchCallsTaken_eq (s : State) (disp : Byte) :
    s.fetchCalls 2 ++ List.replicate (if s.BranchCrosses disp then 1 else 0) .idle ++ [.idle] =
      s.branchCallsTaken disp := by
  rw [State.branchCallsTaken, List.append_assoc, ← List.replicate_succ']
  split <;> rfl

/-- A branch taken, after its opcode fetch. -/
theorem branchTaken_run (s : State) (disp : Byte) :
    (branchTaken disp (s.afterCalls 1 (s.fetchCalls 1))).2 = s.afterBranchTaken disp := by
  have hnext : (s.afterCalls 2 (s.fetchCalls 2)).regs.pc = s.branchNext := rfl
  have htarget : s.branchNext + signExt disp = s.branchTarget disp := add_signExt _ _
  have he : (s.afterCalls 2 (s.fetchCalls 2)).flags.e = s.flags.e := rfl
  simp only [branchTaken, core_bind, core_fetchOperand_one, fetch_afterCalls, core_query, id_eq,
    Nat.reduceAdd, hnext, htarget, he, crossIdle_run, busIdle_poll_afterCalls, core_update,
    branchCallsTaken_eq]
  rfl

/-- The body of R220 tests its predicate on the flags before the branch. -/
theorem branchInstr_run (take : Flags → Bool) (disp : Byte) (s : State) :
    (branchInstr take disp s).2 =
      if take s.flags then s.afterBranchTaken disp else s.afterBranchNotTaken := by
  have hflags : (s.afterCalls 1 (s.fetchCalls 1)).flags = s.flags := rfl
  rw [branchInstr, core_bind, fetch_first, core_choose, hflags, apply_ite Prod.snd, branchTaken_run,
    branchNotTaken_run]

/-- An instruction that `exec` dispatches to the body of R220 is taken exactly where its predicate holds. -/
theorem exec_branch {i : Instr} {take : Flags → Bool} {disp : Byte} {s : State} {holds : Prop}
    [Decidable holds] (hi : exec i s = complete (branchInstr take disp) s)
    (htake : take s.flags = true ↔ holds) :
    exec i s = .next (if holds then s.afterBranchTaken disp else s.afterBranchNotTaken) := by
  rw [hi, complete_next, branchInstr_run]
  exact if_congr htake rfl rfl

/-- Settles O37: the body of R220 with the nine predicates of R221 to R229. -/
theorem branchResults : Obligations.BranchResults := by
  intro s disp
  have clear : ∀ b : Bool, (!b) = true ↔ b = false := fun b => by rw [Bool.not_eq_true']
  refine ⟨?bpl, ?bmi, ?bvc, ?bvs, ?bcc, ?bcs, ?bne, ?beq, ?bra⟩
  case bpl => exact exec_branch rfl (clear s.flags.n)
  case bmi => exact exec_branch rfl Iff.rfl
  case bvc => exact exec_branch rfl (clear s.flags.v)
  case bvs => exact exec_branch rfl Iff.rfl
  case bcc => exact exec_branch rfl (clear s.flags.c)
  case bcs => exact exec_branch rfl Iff.rfl
  case bne => exact exec_branch rfl (clear s.flags.z)
  case beq => exact exec_branch rfl Iff.rfl
  case bra => exact exec_branch rfl (iff_true_intro rfl)

end Sys2Proof.Machine
end

section
/-! PROOFS. Bodies that push and pull (20_memory.md R70 to R74): one kind of state for every point within such
a body, and one rule for each piece that a body runs there. -/

namespace Sys2Proof.Machine

open Sys2Proof

/-! ### A point within a body -/

/-- The state after the bus calls `cs` and `len` instruction bytes, when S is `sp`, the store is `mem` and the
last `POLL` left `il`. -/
def State.midway (s : State) (len : Nat) (cs : List BusCall) (sp : Word) (mem : Memory)
    (il : Option Interrupt) : State :=
  { s.afterCalls len cs with regs.s := sp, mem := mem, ilatch := il }

/-- What `POLL` leaves after the calls `cs`, with flag I as it is in the state before. -/
def State.polledAfter (s : State) (cs : List BusCall) : Option Interrupt :=
  pollResult (s.lineAt cs.length) s.flags.i

/-- Before the first push or pull the point is one of `State.afterCalls`. -/
theorem afterCalls_eq_midway (s : State) (len : Nat) (cs : List BusCall) :
    s.afterCalls len cs = s.midway len cs s.regs.s s.mem s.ilatch := rfl

section
variable (s : State) (len : Nat) (cs : List BusCall) (sp : Word) (mem : Memory) (il : Option Interrupt)

@[simp] theorem State.midway_regs :
    (s.midway len cs sp mem il).regs =
      { s.regs with pc := s.regs.pc + BitVec.ofNat 16 len, s := sp } := rfl

@[simp] theorem State.midway_tick (c : BusCall) :
    (s.midway len cs sp mem il).tick c = s.midway len (cs ++ [c]) sp mem il := by
  simp [State.midway, State.afterCalls]

@[simp] theorem State.midway_busAnswer (a : Addr) :
    (s.midway len cs sp mem il).busAnswer a = s.byteIn mem cs.length a := by
  simp [State.midway, State.afterCalls]

theorem poll_midway :
    (poll (s.midway len cs sp mem il)).2 = s.midway len cs sp mem (s.polledAfter cs) := rfl

theorem busIdle_midway :
    (busIdle (s.midway len cs sp mem il)).2 = s.midway len (cs ++ [.idle]) sp mem il := by
  rw [core_busIdle, State.midway_tick]

theorem busRead_midway (a : Addr) :
    busRead a (s.midway len cs sp mem il) =
      (s.byteIn mem cs.length a,
        s.midway len (cs ++ [.read a (s.byteIn mem cs.length a)]) sp mem il) := by
  rw [core_busRead, State.midway_busAnswer, State.midway_tick]

/-- The fetch of byte `len` of the instruction (10_state.md R27), from the store as it then is. -/
theorem fetch_midway :
    (fetch (s.midway len cs sp mem il)).2 =
      s.midway (len + 1) (cs ++ [.read (s.codeAddr len) (s.byteIn mem cs.length (s.codeAddr len))])
        sp mem il := by
  have haddr : (s.midway len cs sp mem il).fetchAddr = s.codeAddr len := rfl
  rw [core_fetch, haddr, State.midway_busAnswer, State.midway_tick]
  simp [State.midway, State.afterCalls, BitVec.ofNat_add, BitVec.add_assoc]

theorem push_midway (v : Byte) :
    (push v (s.midway len cs sp mem il)).2 =
      s.midway len (cs ++ [.write (bankAddr 0x00 sp) v]) (stackDown s.flags.e sp)
        (mem.write (bankAddr 0x00 sp) v) il := by
  have haddr : (s.midway len cs sp mem il).stackAddr = bankAddr 0x00 sp := rfl
  rw [core_push, haddr, State.midway_tick]
  rfl

theorem pushN_midway (v : Byte) :
    (pushN v (s.midway len cs sp mem il)).2 =
      s.midway len (cs ++ [.write (bankAddr 0x00 sp) v]) (stackDown false sp)
        (mem.write (bankAddr 0x00 sp) v) il := by
  have haddr : (s.midway len cs sp mem il).stackAddr = bankAddr 0x00 sp := rfl
  rw [core_pushN, haddr, State.midway_tick]
  rfl

theorem pull_midway :
    pull (s.midway len cs sp mem il) =
      busRead (bankAddr 0x00 (stackUp s.flags.e sp))
        (s.midway len cs (stackUp s.flags.e sp) mem il) := rfl

theorem pullN_midway :
    pullN (s.midway len cs sp mem il) =
      busRead (bankAddr 0x00 (stackUp false sp)) (s.midway len cs (stackUp false sp) mem il) := rfl

theorem fixS_midway :
    (fixS (s.midway len cs sp mem il)).2 = s.midway len cs (pageFixed s.flags.e sp) mem il := rfl

end

/-! ### The fetches before the first push or pull -/

theorem fetchOperand_afterCalls (n : Nat) (s : State) (k : Nat) :
    (fetchOperand n (s.afterCalls k (s.fetchCalls k))).2 =
      s.afterCalls (k + n) (s.fetchCalls (k + n)) := by
  induction n generalizing k with
  | zero => rfl
  | succ n ih => rw [core_fetchOperand_succ, fetch_afterCalls, ih, Nat.add_right_comm, Nat.add_assoc]

/-- `POLL` and then the fetch of the operand's last byte, as the last call of the body (R299). -/
theorem fetchOperand_poll_afterCalls (s : State) (k : Nat) :
    (fetchOperand 1 (poll (s.afterCalls k (s.fetchCalls k))).2).2 =
      s.ranThrough (k + 1) (s.fetchCalls (k + 1)) s.flags.i := fetch_poll_afterCalls s k

/-! ### S after pushes and pulls without the page wrap (R72, R73) -/

theorem stackDowns_false (sp : Word) (n : Nat) : stackDowns false sp n = sp - BitVec.ofNat 16 n := by
  induction n with
  | zero => simp [stackDowns]
  | succ n ih =>
    rw [stackDowns, ih, BitVec.ofNat_add]
    simp [stackDown, BitVec.sub_sub]

theorem stackUps_false (sp : Word) (n : Nat) : stackUps false sp n = sp + BitVec.ofNat 16 n := by
  induction n with
  | zero => simp [stackUps]
  | succ n ih =>
    rw [stackUps, ih, BitVec.ofNat_add]
    simp [stackUp, BitVec.add_assoc]

end Sys2Proof.Machine
end

section
/-! PROOFS. Jumps, calls, returns, BRK, flag and mode instructions, pushes, pulls and block moves
(45_control_stack_system.md R235 to R270): each body is run once, piece by piece, and then what it leaves is
compared with the statement. -/

namespace Sys2Proof.Machine

open Sys2Proof

/-! ### Jumps (R236 to R238) -/

theorem jumpAbsolute_run (s : State) (addr : Word) :
    (jumpAbsolute addr s).2 = (s.ranThrough 3 (s.fetchCalls 3) s.flags.i).setPC addr := by
  simp only [jumpAbsolute, core_bind, fetch_first, fetchOperand_afterCalls,
    fetchOperand_poll_afterCalls, core_update, Nat.reduceAdd]

/-- The two bytes at the pointer of JMP (a), which wraps within bank 0 (R237). -/
def indirectPointer (addr : Word) : EffAddr := ⟨bankAddr 0x00 addr, bankAddr 0x00 (addr + 1)⟩

/-- JMP (a) reads its target as a 16-bit operand at the pointer. -/
theorem jumpIndirect_eq_readOperand (addr : Word) :
    jumpIndirect addr = (do
      let _ ← fetch
      fetchOperand 2
      let target ← readOperand .w16 (indirectPointer addr)
      update (State.setPC target)) := rfl

theorem jumpIndirect_run (s : State) (addr : Word) :
    (jumpIndirect addr s).2 =
      (s.ranThrough 3 (s.fetchCalls 3 ++ s.operandReads 3 (indirectPointer addr) .w16) s.flags.i).setPC
        (s.operandAt 3 (indirectPointer addr) .w16) := by
  simp only [jumpIndirect_eq_readOperand, core_bind, fetch_first, fetchOperand_afterCalls,
    readOperand_run, core_update, length_fetchCalls, Nat.reduceAdd]

theorem jumpLongAbsolute_run (s : State) (addr : Addr) :
    (jumpLongAbsolute addr s).2 =
      (s.ranThrough 4 (s.fetchCalls 4) s.flags.i).jumpLong (bankOf addr) (offsetOf addr) := by
  simp only [jumpLongAbsolute, core_bind, fetch_first, fetchOperand_afterCalls,
    fetchOperand_poll_afterCalls, core_update, Nat.reduceAdd]

/-- Settles O38: none of the three bodies touches the stack or a flag, and only JML's ends in `jumpLong`. -/
theorem jumpResults : Obligations.JumpResults := by
  intro s addr al
  refine ⟨?jmpAbs, ?jmpInd, ?jml⟩
  case jmpAbs => exact congrArg Host.Outcome.next (jumpAbsolute_run s addr)
  case jmpInd => exact congrArg Host.Outcome.next (jumpIndirect_run s addr)
  case jml => exact congrArg Host.Outcome.next (jumpLongAbsolute_run s al)

/-! ### Calls (R239, R240) -/

/-- The address of the last byte of an instruction, once its `n + 1` bytes are fetched. -/
theorem lastByte_pc (pc : Word) (n : Nat) : pc + BitVec.ofNat 16 (n + 1) - 1 = pc + BitVec.ofNat 16 n := by
  rw [BitVec.ofNat_add, ← BitVec.add_assoc]
  exact BitVec.add_sub_cancel _ _

/-- The state in which JSR jumps: its return address pushed, high byte first (R239). -/
theorem callSubroutine_run (s : State) (addr : Word) :
    (callSubroutine addr s).2 =
      let bytes := [highByte (s.regs.pc + 2), lowByte (s.regs.pc + 2)]
      { s.ranThrough 3 (s.fetchCalls 3 ++ [.idle] ++ pushCalls s.flags.e s.regs.s 0 bytes) s.flags.i with
        regs.pc := addr
        regs.s := stackDowns s.flags.e s.regs.s 2
        mem := s.mem.pushed s.flags.e s.regs.s 0 bytes } := by
  have hret : s.regs.pc + BitVec.ofNat 16 3 - 1 = s.regs.pc + 2 := lastByte_pc s.regs.pc 2
  simp only [callSubroutine, core_bind, fetch_first, fetchOperand_afterCalls, Nat.reduceAdd]
  simp only [afterCalls_eq_midway, busIdle_midway, core_query, State.midway_regs, hret, push_midway,
    poll_midway, core_update]
  rfl

/-- Settles O39: the two pushed bytes go to different addresses. -/
theorem jsrResult : Obligations.JsrResult := fun s addr =>
  ⟨congrArg Host.Outcome.next (callSubroutine_run s addr),
    fun hwf => pushed_at s.mem _ _ _ hwf (by simp)⟩

theorem callSubroutineLong_run (s : State) (addr : Addr) :
    (callSubroutineLong addr s).2 =
      let bytes := [s.regs.pbr, highByte (s.regs.pc + 3), lowByte (s.regs.pc + 3)]
      let bank := s.byteIn (s.mem.write (bankAddr 0x00 s.regs.s) s.regs.pbr) 5 (s.codeAddr 3)
      { s.ranThrough 4
          (s.fetchCalls 3 ++ [.write (bankAddr 0x00 s.regs.s) s.regs.pbr, .idle, .read (s.codeAddr 3) bank] ++
            pushCalls false s.regs.s 1 [highByte (s.regs.pc + 3), lowByte (s.regs.pc + 3)]) s.flags.i with
        regs.pbr := bankOf addr
        regs.pc := offsetOf addr
        regs.s := pageFixed s.flags.e (stackDowns false s.regs.s 3)
        mem := s.mem.pushed false s.regs.s 0 bytes } := by
  have hret : s.regs.pc + BitVec.ofNat 16 4 - 1 = s.regs.pc + 3 := lastByte_pc s.regs.pc 3
  simp only [callSubroutineLong, core_bind, fetch_first, fetchOperand_afterCalls, Nat.reduceAdd]
  simp only [afterCalls_eq_midway, core_query, State.midway_regs, pushN_midway, busIdle_midway,
    core_fetchOperand_one, fetch_midway, Nat.reduceAdd, hret, poll_midway, fixS_midway,
    core_update]
  rfl

/-- Settles O40: the bank byte is read between the first push and the other two. -/
theorem jslResult : Obligations.JslResult := fun s al =>
  ⟨congrArg Host.Outcome.next
      ((callSubroutineLong_run s al).trans (by rw [stackDowns_false]; rfl)),
    fun hwf => pushed_at s.mem _ _ _ hwf (by simp)⟩

/-! ### Returns (R241 to R243) -/

theorem returnSubroutine_run (s : State) :
    (returnSubroutine s).2 =
      { s.ranThrough 1 (s.fetchCalls 1 ++ [.idle, .idle] ++ s.pullCalls s.flags.e 3 2 ++ [.idle])
          s.flags.i with
        regs.pc := joinBytes (s.pulledByte s.flags.e 3 1) (s.pulledByte s.flags.e 3 0) + 1
        regs.s := stackUps s.flags.e s.regs.s 2 } := by
  simp only [returnSubroutine, core_bind, fetch_first, afterCalls_eq_midway, busIdle_midway,
    pull_midway, busRead_midway, poll_midway, core_update]
  rfl

theorem returnSubroutineLong_run (s : State) :
    (returnSubroutineLong s).2 =
      { s.ranThrough 1 (s.fetchCalls 1 ++ [.idle, .idle] ++ s.pullCalls false 3 3) s.flags.i with
        regs.pc := joinBytes (s.pulledByte false 3 1) (s.pulledByte false 3 0) + 1
        regs.pbr := s.pulledByte false 3 2
        regs.s := pageFixed s.flags.e (stackUps false s.regs.s 3) } := by
  simp only [returnSubroutineLong, core_bind, fetch_first, afterCalls_eq_midway, busIdle_midway,
    pullN_midway, busRead_midway, poll_midway, fixS_midway, core_update]
  rfl

/-- Settles O41: both bodies pull low byte first and add one to the address they pulled. -/
theorem returnResults : Obligations.ReturnResults := fun s =>
  ⟨congrArg Host.Outcome.next (returnSubroutine_run s),
    congrArg Host.Outcome.next
      ((returnSubroutineLong_run s).trans (by rw [stackUps_false]; rfl))⟩

/-- Settles O42: after its opcode fetch RTI is the return of 60_exceptions.md. -/
theorem rtiResult : Obligations.RtiResult := by
  intro s
  have hexec : exec .rti s = complete returnInterrupt s := rfl
  rw [hexec, complete_next, returnInterrupt, core_bind, fetch_first]
  exact returnFromException_run s

/-! ### BRK (R244) -/

/-- The BRK vector of the mode (60_exceptions.md R304). -/
theorem vectorAddr_brk (e : Bool) : vectorAddr none e = if e then 0x00FFFE else 0x00FFE6 := by
  cases e <;> rfl

theorem softwareInterrupt_run (s : State) (sig : Byte) :
    (softwareInterrupt sig s).2 =
      s.entered 2 (s.fetchCalls 2) (if s.flags.e then 0x00FFFE else 0x00FFE6) true := by
  simp only [softwareInterrupt, core_bind, fetch_first, fetchOperand_afterCalls,
    takeException_run, vectorAddr_brk, Nat.reduceAdd]

theorem length_exceptionFrame_le (f : Flags) (pbr : Byte) (pc : Word) (breakFlag : Bool) :
    (exceptionFrame f pbr pc breakFlag).length ≤ 4 := by
  unfold exceptionFrame
  split <;> simp

/-- Settles O43: the two fetches, and then the entry of 60_exceptions.md R301 with `break_flag` 1. -/
theorem brkResult : Obligations.BrkResult := fun s sig =>
  ⟨congrArg Host.Outcome.next (softwareInterrupt_run s sig),
    fun hwf => pushed_at s.mem _ _ _ hwf
      ((length_exceptionFrame_le s.flags s.regs.pbr (s.regs.pc + 2) true).trans (by decide))⟩

/-! ### Flag and mode instructions (R245 to R255) -/

/-- Settles O44: eight implied instructions, whose effect is the one write of a flag or nothing. -/
theorem flagInstrResults : Obligations.FlagInstrResults := by
  refine ⟨?nop, ?clc, ?sec, ?cli, ?sei, ?clv, ?cld, ?sed⟩
  all_goals exact impliedBy_of_effect (fun _ => rfl) fun _ => rfl

theorem maskInstr_run (effect : State → State) (s : State) :
    (maskInstr effect s).2 = effect (s.ranThrough 2 (s.fetchCalls 2 ++ [.idle]) s.flags.i) := by
  simp only [maskInstr, core_bind, fetch_first, fetchOperand_afterCalls,
    busIdle_poll_afterCalls, core_update, Nat.reduceAdd]

/-- The index high bytes are cleared exactly where XF is then 1 (10_state.md R36). -/
theorem loadFlags_eq_flagsLoaded (t : State) (b : Byte) : t.loadFlags b = t.flagsLoaded b := by
  unfold State.loadFlags State.flagsLoaded indexFit
  split <;> simp [State.clearIndexHigh, zeroExt_eq_joinBytes]

/-- Each bit of the flag byte (10_state.md R33). -/
theorem getLsbD_flagsToByte (brk : Bool) (f : Flags) (k : Nat) :
    (flagsToByte brk f).getLsbD k =
      [f.c, f.z, f.i, f.df, if f.e then brk else f.xf, if f.e then true else f.m, f.v, f.n].getD k
        false := by
  have happend : (flagsToByte brk f).getLsbD k = BitVec.getLsbD (w := 1 + 1 + 1 + 1 + 1 + 1 + 1 + 1)
      (BitVec.ofBool f.n ++ BitVec.ofBool f.v ++ BitVec.ofBool (if f.e then true else f.m) ++
        BitVec.ofBool (if f.e then brk else f.xf) ++ BitVec.ofBool f.df ++ BitVec.ofBool f.i ++
        BitVec.ofBool f.z ++ BitVec.ofBool f.c) k := rfl
  simp only [happend, BitVec.getLsbD_append, BitVec.getLsbD_ofBool]
  match k with
  | 0 | 1 | 2 | 3 | 4 | 5 | 6 | 7 => simp
  | k + 8 => simp

/-- Settles O45: bits 5 and 4 of the mask fall on M and XF, which `flags_from_byte` reads in native mode
only. -/
theorem repSepResults : Obligations.RepSepResults := by
  intro s mask
  have hrep : exec (.rep mask) s =
    complete (maskInstr fun t => t.loadFlags (flagsToByte true t.flags &&& ~~~mask)) s := rfl
  have hsep : exec (.sep mask) s =
    complete (maskInstr fun t => t.loadFlags (flagsToByte true t.flags ||| mask)) s := rfl
  simp only [hrep, hsep, complete_next, maskInstr_run, loadFlags_eq_flagsLoaded, State.flagsLoaded]
  simp only [flagsFromByte, BitVec.getLsbD_and, BitVec.getLsbD_or, BitVec.getLsbD_not,
    getLsbD_flagsToByte, State.ranThrough_flags, State.ranThrough_regs]
  cases he : s.flags.e <;> simp

/-- XCE's effect, without the case split on C (R255). -/
theorem exchangeCE_eq (t : State) :
    t.exchangeCE =
      { t with
        flags := { t.flags with
          c := t.flags.e, e := t.flags.c, m := t.flags.m || t.flags.c, xf := t.flags.xf || t.flags.c }
        regs.x := indexFit t.flags.c t.regs.x
        regs.y := indexFit t.flags.c t.regs.y
        regs.s := pageFixed t.flags.c t.regs.s } := by
  cases hc : t.flags.c <;>
  simp [State.exchangeCE, hc, State.clearIndexHigh, indexFit, pageFixed, zeroExt_eq_joinBytes]

/-- Settles O46: an implied instruction, whose effect has one form for both values of C. -/
theorem xceResult : Obligations.XceResult := impliedBy_of_effect (fun _ => rfl) exchangeCE_eq

/-! ### Pushes (R256 to R262) -/

/-- A push at width `w` after the opcode fetch: one idle call, then the bytes, high byte first. -/
theorem pushValue_run (w : Width) (v : Word) (s : State) :
    (pushValue w v (s.afterCalls 1 (s.fetchCalls 1))).2 =
      { s.ranThrough 1 (s.fetchCalls 1 ++ [.idle] ++ pushCalls s.flags.e s.regs.s 0 (w.pushBytes v))
          s.flags.i with
        regs.s := stackDowns s.flags.e s.regs.s (w.pushBytes v).length
        mem := s.mem.pushed s.flags.e s.regs.s 0 (w.pushBytes v) } := by
  cases w <;>
  · simp only [pushValue, core_bind, afterCalls_eq_midway, busIdle_midway, poll_midway, push_midway]
    rfl

theorem pushInstr_run (w : State → Width) (value : State → Word) (s : State) (hw : FlagWidth w)
    (hv : CallsKeep value) :
    (pushInstr w value s).2 = (pushValue (w s) (value s) (s.afterCalls 1 (s.fetchCalls 1))).2 := by
  have hwidth : w (s.afterCalls 1 (s.fetchCalls 1)) = w s := hw _ _ rfl
  simp only [pushInstr, core_bind, fetch_first, core_query, hwidth, hv s]

theorem length_pushBytes_le (w : Width) (v : Word) : (w.pushBytes v).length ≤ 256 := by
  cases w <;> simp [Width.pushBytes]

/-- An instruction that `exec` dispatches to a push of a value that its opcode fetch leaves alone. -/
theorem pushesBy_of_pushInstr {i : Instr} {w : State → Width} {value : State → Word}
    (hi : ∀ s, exec i s = complete (pushInstr w value) s) (hw : FlagWidth w) (hv : CallsKeep value) :
    PushesBy i w value := by
  intro s
  refine ⟨?next, fun hwf => pushed_at s.mem _ _ _ hwf (length_pushBytes_le _ _)⟩
  case next => rw [hi s, complete_next, pushInstr_run w value s hw hv, pushValue_run]

/-- The width of PHP, PHB, PHK and PLP depends on no flag. -/
theorem flagWidth_const (w : Width) : FlagWidth fun _ => w := fun _ _ _ => rfl

/-- Settles O47: six pushes of a register or of the flag byte. -/
theorem pushResults : Obligations.PushResults :=
  ⟨pushesBy_of_pushInstr (fun _ => rfl) flagWidth_widthA State.getA_afterCalls,
    pushesBy_of_pushInstr (fun _ => rfl) flagWidth_widthX fun _ _ _ => rfl,
    pushesBy_of_pushInstr (fun _ => rfl) flagWidth_widthX fun _ _ _ => rfl,
    pushesBy_of_pushInstr (fun _ => rfl) (flagWidth_const .w8) fun _ _ _ => rfl,
    pushesBy_of_pushInstr (fun _ => rfl) (flagWidth_const .w8) fun _ _ _ => rfl,
    pushesBy_of_pushInstr (fun _ => rfl) (flagWidth_const .w8) fun _ _ _ => rfl⟩

theorem pushDirect_run (s : State) :
    (pushDirect s).2 =
      let bytes := [highByte s.regs.d, lowByte s.regs.d]
      { s.ranThrough 1 (s.fetchCalls 1 ++ [.idle] ++ pushCalls false s.regs.s 0 bytes) s.flags.i with
        regs.s := pageFixed s.flags.e (stackDowns false s.regs.s 2)
        mem := s.mem.pushed false s.regs.s 0 bytes } := by
  simp only [pushDirect, core_bind, fetch_first, afterCalls_eq_midway, busIdle_midway, core_query,
    State.midway_regs, pushN_midway, poll_midway, fixS_midway]
  rfl

/-- Settles O48: S leaves page 1 between the pushes and comes back at the end. -/
theorem phdResult : Obligations.PhdResult := fun s =>
  ⟨congrArg Host.Outcome.next ((pushDirect_run s).trans (by rw [stackDowns_false]; rfl)),
    fun hwf => pushed_at s.mem _ _ _ hwf (by simp)⟩

/-! ### Pulls (R263 to R268) -/

/-- The state in which a pull at width `w` takes effect (section 5 of 45_control_stack_system.md). -/
def State.afterPull (s : State) (w : Width) : State :=
  { s.ranThrough 1 (s.fetchCalls 1 ++ [.idle, .idle] ++ s.pullCalls s.flags.e 3 w.bytes) s.flags.i with
    regs.s := stackUps s.flags.e s.regs.s w.bytes }

theorem pullValue_run (w : Width) (s : State) :
    pullValue w (s.afterCalls 1 (s.fetchCalls 1)) = (s.pulledValue s.flags.e 3 w, s.afterPull w) := by
  cases w <;>
  · simp only [pullValue, core_bind, afterCalls_eq_midway, busIdle_midway, poll_midway, pull_midway,
      busRead_midway, core_pure]
    rfl

/-- A pulled value has the width it was pulled at. -/
theorem trunc_pulledValue (s : State) (wrap : Bool) (n : Nat) (w : Width) :
    w.trunc (s.pulledValue wrap n w) = s.pulledValue wrap n w := by
  cases w with
  | w8 => exact trunc_w8_zeroExt _
  | w16 => exact trunc_w16 _

theorem pullInstr_run (w : State → Width) (op : ReadOp) (s : State) (hw : FlagWidth w) :
    (pullInstr w op s).2 = op (w s) (s.pulledValue s.flags.e 3 (w s)) (s.afterPull (w s)) := by
  have hwidth : w (s.afterCalls 1 (s.fetchCalls 1)) = w s := hw _ _ rfl
  simp only [pullInstr, core_bind, fetch_first, core_query, hwidth, pullValue_run, core_update]

/-- An instruction that `exec` dispatches to a pull does to the pulled value what its operator does to every
operand of the width in force. -/
theorem pullsBy_of_pullInstr {i : Instr} {w : State → Width} {op : ReadOp}
    {result : Width → Word → State → State} (hi : ∀ s, exec i s = complete (pullInstr w op) s)
    (hw : FlagWidth w) (hop : OperatorResult w op result) : PullsBy i w result := by
  intro s
  have hafter : w (s.afterPull (w s)) = w s := hw _ _ rfl
  have hres := hop (s.afterPull (w s)) (s.pulledValue s.flags.e 3 (w s))
  rw [hafter] at hres
  rw [hi s, complete_next, pullInstr_run w op s hw, hres (trunc_pulledValue _ _ _ _)]
  rfl

/-- Settles O49: PLA, PLX and PLY share their operators with the loads, and PLP loads the flag byte. -/
theorem pullResults : Obligations.PullResults :=
  ⟨pullsBy_of_pullInstr (fun _ => rfl) flagWidth_widthA opLda_result,
    pullsBy_of_pullInstr (fun _ => rfl) flagWidth_widthX opLdx_result,
    pullsBy_of_pullInstr (fun _ => rfl) flagWidth_widthX opLdy_result,
    pullsBy_of_pullInstr (fun _ => rfl) (flagWidth_const .w8) fun t v _ =>
      loadFlags_eq_flagsLoaded t (lowByte v)⟩

theorem pullDataBank_run (s : State) :
    let b := s.pulledByte false 3 0
    (pullDataBank s).2 =
      State.setNZ .w8 (zeroExt b)
        { s.ranThrough 1 (s.fetchCalls 1 ++ [.idle, .idle] ++ s.pullCalls false 3 1) s.flags.i with
          regs.dbr := b
          regs.s := pageFixed s.flags.e (stackUps false s.regs.s 1) } := by
  simp only [pullDataBank, core_bind, fetch_first, afterCalls_eq_midway, busIdle_midway, poll_midway,
    pullN_midway, busRead_midway, fixS_midway, core_update]
  rfl

theorem pullDirect_run (s : State) :
    let d := joinBytes (s.pulledByte false 3 1) (s.pulledByte false 3 0)
    (pullDirect s).2 =
      State.setNZ .w16 d
        { s.ranThrough 1 (s.fetchCalls 1 ++ [.idle, .idle] ++ s.pullCalls false 3 2) s.flags.i with
          regs.d := d
          regs.s := pageFixed s.flags.e (stackUps false s.regs.s 2) } := by
  simp only [pullDirect, core_bind, fetch_first, afterCalls_eq_midway, busIdle_midway, poll_midway,
    pullN_midway, busRead_midway, fixS_midway, core_update]
  rfl

/-- Settles O50: N and Z are at the width of the pulled value, whatever M and XF are. -/
theorem pullBankDirectResults : Obligations.PullBankDirectResults := by
  intro s
  have hplb : exec .plb s = complete pullDataBank s := rfl
  have hpld : exec .pld s = complete pullDirect s := rfl
  refine ⟨?plb, ?pld⟩
  case plb =>
    rw [hplb, complete_next, pullDataBank_run, setNZ_eq_withNZ _ (trunc_w8_zeroExt _), stackUps_false]
    rfl
  case pld =>
    rw [hpld, complete_next, pullDirect_run, setNZ_eq_withNZ _ (trunc_w16 _), stackUps_false]
    rfl

/-! ### Block moves (R269, R270) -/

/-- The byte a block move takes from `src:X`, as bus call number 3. -/
def State.movedByte (s : State) (src : Byte) : Byte := s.byteAt 3 (bankAddr src s.regs.x)

/-- The state after one step of a block move whose indices go by `step` (R269, R270). -/
def State.afterBlockMove (s : State) (dst src : Byte) (step : Word) : State :=
  { s.ranThrough 3
      (s.fetchCalls 3 ++
        [.read (bankAddr src s.regs.x) (s.movedByte src), .write (bankAddr dst s.regs.y) (s.movedByte src),
         .idle, .idle]) s.flags.i with
    regs :=
      { s.regs with
        a := s.regs.a - 1
        x := s.widthX.trunc (s.regs.x + step)
        y := s.widthX.trunc (s.regs.y + step)
        pc := if s.regs.a = 0 then s.regs.pc + 3 else s.regs.pc
        dbr := dst }
    mem := s.mem.write (bankAddr dst s.regs.y) (s.movedByte src) }

theorem blockMove_run (s : State) (dst src : Byte) (step : Word) :
    (blockMove dst src step s).2 = s.afterBlockMove dst src step := by
  simp only [blockMove, core_bind, fetch_first, fetchOperand_afterCalls, Nat.reduceAdd]
  simp [State.afterCalls, State.afterBlockMove, State.ranThrough, State.setX, State.setY,
    State.widthX, State.movedByte]

/-- The step of an index as a sum of numbers (10_state.md R23). -/
theorem trunc_add_eq_wrap (w : Width) (v step : Word) :
    w.trunc (v + step) = w.wrap (v.toNat + step.toNat) :=
  trunc_eq_wrap (BitVec.toNat_add v step) w

/-- Settles O51: MVP's step of -1 is a step of 65535 modulo 2^16. -/
theorem blockMoveResults : Obligations.BlockMoveResults := by
  intro s dst src
  have hmvn : exec (.mvn dst src) s = complete (blockMove dst src 1) s := rfl
  have hmvp : exec (.mvp dst src) s = complete (blockMove dst src (-1)) s := rfl
  refine ⟨?mvn, ?mvp, ?store⟩
  case mvn =>
    rw [hmvn, complete_next, blockMove_run, State.afterBlockMove, trunc_add_eq_wrap, trunc_add_eq_wrap]
    rfl
  case mvp =>
    rw [hmvp, complete_next, blockMove_run, State.afterBlockMove, trunc_add_eq_wrap, trunc_add_eq_wrap]
    rfl
  case store =>
    intro hwf
    exact ⟨read_write_same _ hwf _ _, read_write_same _ hwf _ _,
      fun a ha => ⟨read_write_other _ hwf ha _, read_write_other _ hwf ha _⟩⟩

end Sys2Proof.Machine
end

section
/-! PROOFS. Exceptions (60_exceptions.md): what `POLL` selects (R296, R298), and the step that takes a latched
NMI or IRQ (R300 step 2, R301, R302, R304). -/

namespace Sys2Proof.Machine

open Sys2Proof

/-! ### The poll (R296, R298) -/

/-- The three results of `POLL`, one branch of the priority order at a time. -/
theorem pollResult_iff (l : InterruptLine) (i : Bool) :
    (pollResult l i = some .reset ↔ l.reset = true) ∧
    (pollResult l i = some .nmi ↔ l.reset = false ∧ l.nmi = true) ∧
    (pollResult l i = some .irq ↔ l.reset = false ∧ l.nmi = false ∧ l.irq = true ∧ i = false) := by
  unfold pollResult
  split
  case isTrue hreset => simp [hreset]
  case isFalse hreset =>
    split
    case isTrue hnmi => simp [hreset, hnmi]
    case isFalse hnmi =>
      split
      case isTrue hirq => simpa [hreset, hnmi] using hirq
      case isFalse hirq => simpa [hreset, hnmi] using hirq

/-- Settles O11: what `POLL` leaves in `ilatch` is `pollResult`, and it writes no other field. -/
theorem pollSelects : Obligations.PollSelects := fun s => ⟨rfl, pollResult_iff s.line s.flags.i⟩

/-! ### The entry (R300 step 2, R301, R302, R304) -/

/-- The NMI vector of the mode (R304). -/
theorem vectorAddr_nmi (e : Bool) : vectorAddr (some .nmi) e = if e then 0x00FFFA else 0x00FFEA := by
  cases e <;> rfl

/-- The IRQ vector of the mode (R304). -/
theorem vectorAddr_irq (e : Bool) : vectorAddr (some .irq) e = if e then 0x00FFFE else 0x00FFEE := by
  cases e <;> rfl

/-- With no fault recorded, a latched event is the whole step (R300 step 2). -/
theorem step_of_latched {s : State} {k : Interrupt} (hf : s.fault = none) (hk : s.ilatch = some k) :
    step s = .next (serviceInterrupt k s.beginStep).2 := by
  simp only [step, hf, hk]
  rfl

/-- A latched NMI or IRQ: the entry from the state whose line the acknowledge has left (R301, R302). -/
theorem step_of_latched_interrupt {s : State} {k : Interrupt} (hf : s.fault = none)
    (hk : s.ilatch = some k) (hne : k ≠ .reset) :
    step s = .next ((s.accepted (s.acknowledge k).line).entered 0
      [(s.accepted (s.acknowledge k).line).readCall 0 s.fetchAddr, .idle]
      (vectorAddr (some k) s.flags.e) false) := by
  rw [step_of_latched hf hk, serviceInterrupt_run k hne]

/-- What an entry does to the store: the bytes of the frame, at the addresses the pushes give, and no other
byte (R301). -/
theorem entered_pushedAt (s : State) (len : Nat) (cs : List BusCall) (v : Addr) (breakFlag : Bool)
    (hwf : s.mem.wf = true) :
    PushedAt s.mem (s.entered len cs v breakFlag).mem s.flags.e s.regs.s
      (exceptionFrame s.flags s.regs.pbr (s.regs.pc + BitVec.ofNat 16 len) breakFlag) :=
  pushed_at s.mem _ _ _ hwf ((length_exceptionFrame_le _ _ _ _).trans (by decide))

/-- The frame of an accepted NMI or IRQ holds the address of the abandoned instruction: the discarded opcode
read leaves PC (R301). -/
theorem accepted_entered_pushedAt (s : State) (l : InterruptLine) (cs : List BusCall) (v : Addr)
    (hwf : s.mem.wf = true) :
    PushedAt s.mem ((s.accepted l).entered 0 cs v false).mem s.flags.e s.regs.s
      (exceptionFrame s.flags s.regs.pbr s.regs.pc false) := by
  have hpc : s.regs.pc + BitVec.ofNat 16 0 = s.regs.pc := BitVec.add_zero s.regs.pc
  have h := entered_pushedAt (s.accepted l) 0 cs v false hwf
  rwa [State.accepted_mem, State.accepted_flags, State.accepted_regs, hpc] at h

/-- Settles O12: each event's step is the entry at its own vector, and either entry writes the same frame. -/
theorem interruptTaken : Obligations.InterruptTaken := by
  intro s hf
  refine ⟨fun hk => ?nmi, fun hk => ?irq, fun hwf => ?frame⟩
  case nmi =>
    rw [step_of_latched_interrupt hf hk (by decide), vectorAddr_nmi, State.acknowledge_nmi]
  case irq =>
    rw [step_of_latched_interrupt hf hk (by decide), vectorAddr_irq, State.acknowledge_irq]
  case frame =>
    exact ⟨accepted_entered_pushedAt s _ _ _ hwf, accepted_entered_pushedAt s _ _ _ hwf⟩

end Sys2Proof.Machine
end

section
/-! PROOFS. Reset (70_reset_and_hazards.md): the step that takes a latched RESET (60_exceptions.md R300
step 2, R302; R331, R332). -/

namespace Sys2Proof.Machine

open Sys2Proof

/-- A latched RESET runs the reset sequence from the state in which `ilatch` is consumed and the RESET line
dropped (60_exceptions.md R300 step 2, R302). -/
theorem serviceInterrupt_reset (s : State) :
    serviceInterrupt .reset s.beginStep = resetSequence (s.accepted { s.line with reset := false }) := rfl

/-- Settles O13: the step is the reset sequence alone, and the accepted state still has the registers and
flags that the sequence starts from. (The model's `resetSequence` has the obligation's plain name.) -/
theorem resetSequence_holds : Obligations.ResetSequence := by
  intro s hf hk
  rw [step_of_latched hf hk, serviceInterrupt_reset, resetSequence_run]
  rfl

end Sys2Proof.Machine
end

section
/-! PROOFS. Encoding (30_encoding.md): the map of R96 and the list of `encode` are the same table, so decoding
and encoding undo each other. What a format makes of its operand bytes is one relation, used both ways. -/

namespace Sys2Proof

open Sys2Proof.Machine

/-! ### A format and its operand bytes (R91, R92) -/

/-- The instruction that a format makes of its operand is spelled by these operand bytes (R92). An immediate
may have either width. -/
def Format.Spells : Format → Instr → List Byte → Prop
  | .plain j, i, bs => i = j ∧ bs = []
  | .byte f, i, bs => ∃ b, i = f b ∧ bs = [b]
  | .word f, i, bs => ∃ v, i = f v ∧ bs = wordBytes v
  | .long f, i, bs => ∃ a, i = f a ∧ bs = longBytes a
  | .banks f, i, bs => ∃ dst src, i = f dst src ∧ bs = [dst, src]
  | .immM f, i, bs | .immX f, i, bs => ∃ v, i = f v ∧ bs = v.bytes

theorem wordBytes_eq_iff (v : Word) (lo hi : Byte) : wordBytes v = [lo, hi] ↔ v = joinBytes hi lo := by
  constructor
  · intro h
    simp only [wordBytes, List.cons.injEq, and_true] at h
    obtain ⟨rfl, rfl⟩ := h
    exact (joinBytes_high_low v).symm
  · rintro rfl
    simp [wordBytes]

theorem longBytes_eq (a : Addr) :
    longBytes a = [lowByte (offsetOf a), highByte (offsetOf a), bankOf a] := by
  have lo : a.extractLsb' 0 8 = lowByte (offsetOf a) := by
    apply BitVec.eq_of_toNat_eq
    simp [toNat_lowByte, toNat_offsetOf]
  have hi : a.extractLsb' 8 8 = highByte (offsetOf a) := by
    apply BitVec.eq_of_toNat_eq
    simp [toNat_highByte, toNat_offsetOf, Nat.shiftRight_eq_div_pow]
    omega
  rw [longBytes, lo, hi]
  rfl

theorem longBytes_eq_iff (a : Addr) (lo hi bank : Byte) :
    longBytes a = [lo, hi, bank] ↔ a = bankAddr bank (joinBytes hi lo) := by
  rw [longBytes_eq]
  constructor
  · intro h
    simp only [List.cons.injEq, and_true] at h
    obtain ⟨rfl, rfl, rfl⟩ := h
    simp
  · rintro rfl
    simp

/-- The length of an immediate says which of the two widths it has (R91). -/
theorem length_immBytes_iff (narrow : Bool) (v : Imm) :
    v.fits narrow = true ↔ v.bytes.length = if narrow then 1 else 2 := by
  cases narrow <;> cases v <;> simp [Imm.fits, Imm.bytes, wordBytes]

/-- Reading an immediate of the width in force (R91, R92, R93). -/
theorem readImm_eq_some_iff (narrow : Bool) (f : Imm → Instr) (bs rest : List Byte) (i : Instr) :
    readImm narrow f bs = some (i, rest) ↔
      ∃ v : Imm, i = f v ∧ v.bytes.length = (if narrow then 1 else 2) ∧ bs = v.bytes ++ rest := by
  constructor
  · intro h
    unfold readImm at h
    split at h
    case h_1 b _ =>
      cases h
      exact ⟨.byte b, rfl, rfl, rfl⟩
    case h_2 lo hi _ =>
      cases h
      exact ⟨.word (joinBytes hi lo), rfl, rfl, by simp [Imm.bytes, wordBytes]⟩
    case h_3 => cases h
  · rintro ⟨v, rfl, hlen, rfl⟩
    cases narrow <;> cases v <;> simp_all [Imm.bytes, wordBytes, readImm]

/-- What a format builds from a list of bytes: the instruction that its first bytes spell, and the others. -/
theorem build_eq_some_iff (m xf : Bool) (fmt : Format) (bs rest : List Byte) (i : Instr) :
    fmt.build m xf bs = some (i, rest) ↔
      ∃ operands, fmt.Spells i operands ∧ operands.length = fmt.operandBytes m xf ∧
        bs = operands ++ rest := by
  constructor
  · intro h
    unfold Format.build at h
    split at h
    case h_1 => cases h; exact ⟨[], ⟨rfl, rfl⟩, rfl, rfl⟩
    case h_2 b _ => cases h; exact ⟨[b], ⟨b, rfl, rfl⟩, rfl, rfl⟩
    case h_3 lo hi _ =>
      cases h
      exact ⟨[lo, hi], ⟨_, rfl, ((wordBytes_eq_iff _ _ _).mpr rfl).symm⟩, rfl, rfl⟩
    case h_4 lo hi bank _ =>
      cases h
      exact ⟨[lo, hi, bank], ⟨_, rfl, ((longBytes_eq_iff _ _ _ _).mpr rfl).symm⟩, rfl, rfl⟩
    case h_5 dst src _ => cases h; exact ⟨[dst, src], ⟨dst, src, rfl, rfl⟩, rfl, rfl⟩
    case h_6 | h_7 =>
      obtain ⟨v, rfl, hlen, rfl⟩ := (readImm_eq_some_iff _ _ _ _ _).mp h
      exact ⟨v.bytes, ⟨v, rfl, rfl⟩, hlen, rfl⟩
    case h_8 => cases h
  · rintro ⟨operands, hi, hlen, rfl⟩
    cases fmt with
    | plain j => obtain ⟨rfl, rfl⟩ := hi; rfl
    | byte f => obtain ⟨b, rfl, rfl⟩ := hi; rfl
    | banks f => obtain ⟨dst, src, rfl, rfl⟩ := hi; rfl
    | word f =>
      obtain ⟨v, rfl, rfl⟩ := hi
      simp [Format.build, wordBytes]
    | long f =>
      obtain ⟨a, rfl, rfl⟩ := hi
      simp [Format.build, longBytes_eq]
    | immM f | immX f =>
      obtain ⟨v, rfl, rfl⟩ := hi
      exact (readImm_eq_some_iff _ _ _ _ _).mpr ⟨v, rfl, hlen, rfl⟩

/-! ### The map of R96 -/

/-- The instructions of the format are encoded by this opcode byte and their operand bytes (R92). -/
def Format.EncodedAt (op : Byte) : Format → Prop
  | .plain i => encode i = [op]
  | .byte f => (fun b => encode (f b)) = fun b => [op, b]
  | .word f => (fun v => encode (f v)) = fun v => op :: wordBytes v
  | .long f => (fun a => encode (f a)) = fun a => op :: longBytes a
  | .banks f => (fun dst src => encode (f dst src)) = fun dst src => [op, dst, src]
  | .immM f | .immX f => (fun v => encode (f v)) = fun v => op :: v.bytes

/-- Every implemented entry of a part of the map that begins at opcode byte `start` is encoded at its own
byte. -/
def MapEncodedFrom (start : Nat) : List (Option Format) → Prop
  | [] => True
  | none :: later => MapEncodedFrom (start + 1) later
  | some fmt :: later => fmt.EncodedAt (BitVec.ofNat 8 start) ∧ MapEncodedFrom (start + 1) later

/-- The map and `encode` give every instruction the same opcode byte, entry by entry. -/
theorem opcodeMap_encoded : MapEncodedFrom 0 opcodeMap := by
  and_intros <;> trivial

theorem MapEncodedFrom.entry {start : Nat} {map : List (Option Format)} (h : MapEncodedFrom start map)
    {k : Nat} {fmt : Format} (hk : map[k]? = some (some fmt)) :
    fmt.EncodedAt (BitVec.ofNat 8 (start + k)) := by
  induction map generalizing start k with
  | nil => simp at hk
  | cons entry later ih =>
    cases k with
    | zero =>
      obtain rfl : entry = some fmt := by simpa using hk
      exact h.1
    | succ k =>
      have hlater : MapEncodedFrom (start + 1) later := by
        cases entry with
        | none => exact h
        | some fmt' => exact h.2
      rw [Nat.add_comm k, ← Nat.add_assoc]
      exact ih hlater (by simpa using hk)

theorem opcodeFormat_encoded {op : Byte} {fmt : Format} (h : opcodeFormat op = some fmt) :
    fmt.EncodedAt op := by
  have hentry := opcodeMap_encoded.entry (Option.join_eq_some_iff.mp h)
  rwa [Nat.zero_add, BitVec.ofNat_toNat, BitVec.setWidth_eq] at hentry

/-- What a format's operand bytes spell is encoded by the opcode byte and these bytes. -/
theorem Format.EncodedAt.encode_eq {op : Byte} {fmt : Format} (h : fmt.EncodedAt op) {i : Instr}
    {operands : List Byte} (hi : fmt.Spells i operands) : encode i = op :: operands := by
  cases fmt with
  | plain j =>
    obtain ⟨rfl, rfl⟩ := hi
    exact h
  | banks f =>
    obtain ⟨dst, src, rfl, rfl⟩ := hi
    exact congrFun (congrFun h dst) src
  | byte f | word f | long f | immM f | immX f =>
    obtain ⟨operand, rfl, rfl⟩ := hi
    exact congrFun h operand

/-! ### The list of `encode` -/

/-- Every instruction is spelled by the operand bytes of its encoding, in the format of its opcode byte, and
they are as many as the width flags call for exactly where it is well-formed (R91). -/
theorem encode_spelled (i : Instr) : ∃ op fmt operands,
    encode i = op :: operands ∧ opcodeFormat op = some fmt ∧ fmt.Spells i operands ∧
    ∀ m xf, WellFormed m xf i = true ↔ operands.length = fmt.operandBytes m xf := by
  cases i
  case php | aslAcc | phd | clc | incAcc | tcs | plp | rolAcc | pld | sec | decAcc | tsc | rti | pha |
      lsrAcc | phk | cli | phy | tcd | rts | pla | rorAcc | rtl | sei | ply | tdc | dey | txa | phb |
      tya | txs | txy | tay | tax | plb | clv | tsx | tyx | iny | dex | cld | phx | inx | nop | xba |
      sed | plx | xce =>
    exact ⟨_, _, _, rfl, rfl, ⟨rfl, rfl⟩, fun _ _ => iff_of_true rfl rfl⟩
  case brk | oraSr | tsbDp | oraDp | aslDp | bpl | oraIndY | oraInd | trbDp | oraDpX | aslDpX | andSr |
      bitDp | andDp | rolDp | bmi | andIndY | andInd | bitDpX | andDpX | rolDpX | eorSr | eorDp |
      lsrDp | bvc | eorIndY | eorInd | eorDpX | lsrDpX | adcSr | stzDp | adcDp | rorDp | bvs | adcIndY
      | adcInd | stzDpX | adcDpX | rorDpX | bra | staSr | styDp | staDp | stxDp | bcc | staIndY |
      staInd | styDpX | staDpX | stxDpY | ldaSr | ldyDp | ldaDp | ldxDp | bcs | ldaIndY | ldaInd |
      ldyDpX | ldaDpX | ldxDpY | rep | cmpSr | cpyDp | cmpDp | decDp | bne | cmpIndY | cmpInd | cmpDpX
      | decDpX | sep | sbcSr | cpxDp | sbcDp | incDp | beq | sbcIndY | sbcInd | sbcDpX | incDpX =>
    exact ⟨_, _, _, rfl, rfl, ⟨_, rfl, rfl⟩, fun _ _ => iff_of_true rfl rfl⟩
  case tsbAbs | oraAbs | aslAbs | oraAbsY | trbAbs | oraAbsX | aslAbsX | jsr | bitAbs | andAbs | rolAbs
      | andAbsY | bitAbsX | andAbsX | rolAbsX | jmpAbs | eorAbs | lsrAbs | eorAbsY | eorAbsX | lsrAbsX
      | jmpInd | adcAbs | rorAbs | adcAbsY | adcAbsX | rorAbsX | styAbs | staAbs | stxAbs | staAbsY |
      stzAbs | staAbsX | stzAbsX | ldyAbs | ldaAbs | ldxAbs | ldaAbsY | ldyAbsX | ldaAbsX | ldxAbsY |
      cpyAbs | cmpAbs | decAbs | cmpAbsY | cmpAbsX | decAbsX | cpxAbs | sbcAbs | incAbs | sbcAbsY |
      sbcAbsX | incAbsX =>
    exact ⟨_, _, _, rfl, rfl, ⟨_, rfl, rfl⟩, fun _ _ => iff_of_true rfl rfl⟩
  case oraLong | jsl | andLong | eorLong | jml | adcLong | staLong | ldaLong | cmpLong | sbcLong =>
    exact ⟨_, _, _, rfl, rfl, ⟨_, rfl, rfl⟩, fun _ _ => iff_of_true rfl rfl⟩
  case mvp | mvn =>
    exact ⟨_, _, _, rfl, rfl, ⟨_, _, rfl, rfl⟩, fun _ _ => iff_of_true rfl rfl⟩
  case oraImm | andImm | eorImm | adcImm | bitImm | ldaImm | cmpImm | sbcImm =>
    exact ⟨_, _, _, rfl, rfl, ⟨_, rfl, rfl⟩, fun m _ => length_immBytes_iff m _⟩
  case ldyImm | ldxImm | cpyImm | cpxImm =>
    exact ⟨_, _, _, rfl, rfl, ⟨_, rfl, rfl⟩, fun _ xf => length_immBytes_iff xf _⟩
/-! ### Decoding -/

/-- The decoder reads an instruction exactly where the opcode byte has a format whose operand bytes come
first. -/
theorem decode_eq_instr_iff (m xf : Bool) (bytes rest : List Byte) (i : Instr) :
    decode m xf bytes = .instr i rest ↔
      ∃ op fmt operands, bytes = op :: (operands ++ rest) ∧ opcodeFormat op = some fmt ∧
        fmt.Spells i operands ∧ operands.length = fmt.operandBytes m xf := by
  constructor
  · intro h
    unfold decode at h
    split at h
    case h_1 => cases h
    case h_2 op bs =>
      split at h
      case h_1 => cases h
      case h_2 fmt hfmt =>
        split at h
        case h_1 j later hbuild =>
          cases h
          obtain ⟨operands, hi, hlen, rfl⟩ := (build_eq_some_iff _ _ _ _ _ _).mp hbuild
          exact ⟨op, fmt, operands, rfl, hfmt, hi, hlen⟩
        case h_2 => cases h
  · rintro ⟨op, fmt, operands, rfl, hfmt, hi, hlen⟩
    have hbuild := (build_eq_some_iff m xf fmt _ rest i).mpr ⟨operands, hi, hlen, rfl⟩
    simp only [decode, hfmt, hbuild]

/-- Settles O1: the encoding of a well-formed instruction is its opcode byte and the operand bytes of that
byte's format. -/
theorem decodeEncode : Obligations.DecodeEncode := by
  intro m xf i rest hwf
  obtain ⟨op, fmt, operands, hencode, hfmt, hi, hlen⟩ := encode_spelled i
  exact (decode_eq_instr_iff _ _ _ _ _).mpr
    ⟨op, fmt, operands, by rw [hencode]; rfl, hfmt, hi, (hlen m xf).mp hwf⟩

/-- Settles O2: the entry of the map that the decoder used is the entry of `encode`. -/
theorem encodeDecode : Obligations.EncodeDecode := by
  intro m xf bytes rest i h
  obtain ⟨op, fmt, operands, rfl, hfmt, hi, hlen⟩ := (decode_eq_instr_iff _ _ _ _ _).mp h
  have hencode : encode i = op :: operands := (opcodeFormat_encoded hfmt).encode_eq hi
  refine ⟨?wellFormed, by rw [hencode]; rfl⟩
  case wellFormed =>
    obtain ⟨op', fmt', operands', hencode', hfmt', -, hwf⟩ := encode_spelled i
    obtain ⟨rfl, rfl⟩ : op = op' ∧ operands = operands' := by simpa [hencode] using hencode'
    obtain rfl : fmt = fmt' := by simpa [hfmt] using hfmt'
    exact (hwf m xf).mpr hlen

/-- The decoder calls a byte unimplemented exactly where the map has no format for it. -/
theorem decode_eq_unimplemented_iff (m xf : Bool) (op : Byte) (rest : List Byte) :
    decode m xf (op :: rest) = .unimplemented op ↔ opcodeFormat op = none := by
  cases hfmt : opcodeFormat op with
  | none => simp [decode, hfmt]
  | some fmt => cases hbuild : fmt.build m xf rest <;> simp [decode, hfmt, hbuild]

/-- Settles O3: the empty entries of the map, byte by byte. -/
theorem unimplementedBytes : Obligations.UnimplementedBytes := by
  intro m xf op rest
  rw [decode_eq_unimplemented_iff, ← Option.isNone_iff_eq_none]
  revert op
  decide

/-- Settles O4: eight words, one of each operand format, read by evaluation. -/
theorem sampleWords : Obligations.SampleWords := by
  unfold Obligations.SampleWords
  decide

end Sys2Proof
end

section
/-! PROOFS. What every instruction does (70_reset_and_hazards.md R338, 60_exceptions.md R299, 10_state.md
R24 to R31, R36): one statement of the bus calls an instruction makes, of what it may write and of the
invariant it keeps, proved once for each template and each body; the rules about the whole machine are read
off it. -/

namespace Sys2Proof.Machine

open Sys2Proof

/-! ### What an instruction may write -/

/-- XCE alone writes E (10_state.md R31). -/
def writesE : Instr → Bool
  | .xce => true
  | _ => false

theorem eq_xce_of_writesE {i : Instr} (h : writesE i = true) : i = .xce := by
  cases i
  case xce => rfl
  all_goals cases h

/-- M and XF may change under their writers, in native mode or by XCE (R30, R31). -/
def mayWriteWidths (i : Instr) (before : Flags) : Bool := writesWidths i && (!before.e || writesE i)

/-- The registers `after`, with those that `i` may not write put back to `before` (R24, R25, R28). -/
def framedRegs (i : Instr) (before after : Regs) : Regs :=
  { after with
    s := bif writesS i then after.s else before.s
    d := bif writesD i then after.d else before.d
    pbr := bif writesPBR i then after.pbr else before.pbr
    dbr := bif writesDBR i then after.dbr else before.dbr }

/-- The flags `after`, with those that `i` may not write put back to `before` (R31). -/
def framedFlags (i : Instr) (before after : Flags) : Flags :=
  { after with
    v := bif writesV i then after.v else before.v
    df := bif writesDF i then after.df else before.df
    i := bif writesI i then after.i else before.i
    e := bif writesE i then after.e else before.e
    m := bif mayWriteWidths i before then after.m else before.m
    xf := bif mayWriteWidths i before then after.xf else before.xf }

/-- From `s` to `t` only what `i` may write has changed, and the invariant is kept. -/
structure Frame (i : Instr) (s t : State) : Prop where
  regs : t.regs = framedRegs i s.regs t.regs
  flags : t.flags = framedFlags i s.flags t.flags
  inv : s.Inv → t.Inv

/-- A change of registers and flags within the frame of `i`: no bus call, no poll, no write to the store. -/
structure Effect (i : Instr) (s t : State) : Prop extends Frame i s t where
  rest : t = { s with regs := t.regs, flags := t.flags }

/-- The whole of an instruction from `s` to `t`: the calls of R338, the poll before the last one, and the
frame. -/
structure Footprint (i : Instr) (s t : State) : Prop extends Frame i s t where
  calls : ∃ cs, cs.length = busCalls s i ∧
    t = { s.ranThrough 0 cs (polledI i s t) with regs := t.regs, flags := t.flags, mem := t.mem }

/-- The instruction answers a next state from every state, within its footprint. -/
def HasFootprint (i : Instr) : Prop := ∀ s, ∃ t, exec i s = .next t ∧ Footprint i s t

/-- The poll of the instruction sees flag I as it is in the state before (R299). -/
def PollsOldI (i : Instr) : Prop := ∀ s t, polledI i s t = s.flags.i

theorem framedRegs_trans {i : Instr} {r r' r'' : Regs} (h : r' = framedRegs i r r')
    (h' : r'' = framedRegs i r' r'') : r'' = framedRegs i r r'' := by
  cases r
  cases r'
  cases r''
  simp only [framedRegs, Regs.mk.injEq] at h h' ⊢
  grind

theorem framedFlags_trans {i : Instr} {f f' f'' : Flags} (he : f'.e = f.e) (h : f' = framedFlags i f f')
    (h' : f'' = framedFlags i f' f'') : f'' = framedFlags i f f'' := by
  cases f
  cases f'
  cases f''
  simp only [framedFlags, mayWriteWidths, Flags.mk.injEq] at he h h' ⊢
  grind

theorem Frame.trans {i : Instr} {s t u : State} (h : Frame i s t) (h' : Frame i t u)
    (he : t.flags.e = s.flags.e) : Frame i s u :=
  ⟨framedRegs_trans h.regs h'.regs, framedFlags_trans he h.flags h'.flags, h'.inv ∘ h.inv⟩

/-! ### Effects on registers and flags -/

/-- The invariant after a change that keeps E, M and XF. -/
theorem State.Inv.of_modes {s t : State} (h : s.Inv) (he : t.flags.e = s.flags.e)
    (hm : t.flags.m = s.flags.m) (hxf : t.flags.xf = s.flags.xf) (hmem : t.mem.wf = true)
    (hsp : t.flags.e = true → highByte t.regs.s = 0x01)
    (hindex : t.flags.xf = true → highByte t.regs.x = 0x00 ∧ highByte t.regs.y = 0x00) : t.Inv :=
  ⟨hmem, by rw [he, hm, hxf]; exact h.emulation_widths, hsp, hindex⟩

/-- An index register that is unchanged, or written at the width in force (R23), has a clear high byte while
XF = 1. -/
theorem highByte_index {narrow : Bool} {old new : Word} (hxf : narrow = true)
    (hnew : new = old ∨ ∃ v, new = (Width.ofFlag narrow).trunc v) (hold : highByte old = 0x00) :
    highByte new = 0x00 := by
  subst hxf
  obtain rfl | ⟨v, rfl⟩ := hnew
  · exact hold
  · exact highByte_trunc_w8 v

/-- A change of A, X, Y, PC, N, Z, C, and of V where `i` writes V, is in the frame of every instruction. -/
theorem Effect.of_data {i : Instr} {u t : State}
    (ht : t = { u with
      regs := { u.regs with a := t.regs.a, x := t.regs.x, y := t.regs.y, pc := t.regs.pc }
      flags := { u.flags with n := t.flags.n, v := t.flags.v, z := t.flags.z, c := t.flags.c } })
    (hv : writesV i = true ∨ t.flags.v = u.flags.v)
    (hx : t.regs.x = u.regs.x ∨ ∃ v, t.regs.x = u.widthX.trunc v)
    (hy : t.regs.y = u.regs.y ∨ ∃ v, t.regs.y = u.widthX.trunc v) : Effect i u t := by
  generalize t.regs.a = a, t.regs.x = x, t.regs.y = y, t.regs.pc = pc, t.flags.n = n, t.flags.v = v,
    t.flags.z = z, t.flags.c = c at *
  subst ht
  refine { regs := ?_, flags := ?_, inv := fun h => ?_, rest := rfl }
  · simp [framedRegs]
  · obtain hv | rfl := hv <;> simp [framedFlags, *]
  · exact h.of_modes rfl rfl rfl h.mem_wf h.emulation_stack fun hxf =>
      ⟨highByte_index hxf hx (h.index_high hxf).1, highByte_index hxf hy (h.index_high hxf).2⟩

theorem Effect.trans {i : Instr} {s t u : State} (h : Effect i s t) (h' : Effect i t u)
    (he : t.flags.e = s.flags.e) : Effect i s u :=
  { h.toFrame.trans h'.toFrame he with rest := by rw [h'.rest, h.rest] }

section
variable (i : Instr) (u : State)

theorem effect_setNZ (w : Width) (v : Word) : Effect i u (u.setNZ w v) :=
  .of_data rfl (.inr rfl) (.inl rfl) (.inl rfl)

theorem effect_setZ (v : Word) : Effect i u (u.setZ v) := .of_data rfl (.inr rfl) (.inl rfl) (.inl rfl)

theorem effect_setC (c : Bool) : Effect i u (u.setC c) := .of_data rfl (.inr rfl) (.inl rfl) (.inl rfl)

theorem effect_setA (v : Word) : Effect i u (u.setA v) := by
  rw [setA_eq]
  exact .of_data rfl (.inr rfl) (.inl rfl) (.inl rfl)

theorem effect_setX (v : Word) : Effect i u (u.setX v) :=
  .of_data rfl (.inr rfl) (.inr ⟨v, rfl⟩) (.inl rfl)

theorem effect_setY (v : Word) : Effect i u (u.setY v) :=
  .of_data rfl (.inr rfl) (.inl rfl) (.inr ⟨v, rfl⟩)

theorem effect_setANZ (w : Width) (r : Word) : Effect i u (u.setANZ w r) :=
  (effect_setA i u r).trans (effect_setNZ i _ w r) (by simp)

theorem effect_setX_setNZ (w : Width) (v r : Word) : Effect i u ((u.setX v).setNZ w r) :=
  (effect_setX i u v).trans (effect_setNZ i _ w r) rfl

theorem effect_setY_setNZ (w : Width) (v r : Word) : Effect i u ((u.setY v).setNZ w r) :=
  (effect_setY i u v).trans (effect_setNZ i _ w r) rfl

theorem effect_compare (w : Width) (l m : Word) : Effect i u (u.compare w l m) :=
  (effect_setNZ i u w _).trans (effect_setC i _ _) rfl

variable {i}

/-- ADC and SBC write V (R31). -/
theorem effect_setSum (hv : writesV i = true) (w : Width) (r : Sum) : Effect i u (u.setSum w r) :=
  (effect_setANZ i u w r.value).trans (.of_data rfl (.inl hv) (.inl rfl) (.inl rfl))
    (by simp [State.setANZ])

end

/-! ### The count of the bus calls (R338) -/

/-- The rows of 70_reset_and_hazards.md R338 for an instruction with a memory operand, by mode: `n` calls of
its own for an 8-bit operand, `c` more for its width. -/
def State.operandRow (s : State) (mode : Mode) (writes : Bool) (n c : Nat) : Nat :=
  match mode with
  | .dp _ => 2 + n + s.costD + c
  | .dpx _ | .dpy _ => 3 + n + s.costD + c
  | .abs _ => 3 + n + c
  | .abx addr => bif writes then 4 + n + c else 3 + n + costP addr s.regs.x + c
  | .aby addr => bif writes then 4 + n + c else 3 + n + costP addr s.regs.y + c
  | .abl _ => 4 + n + c
  | .ind _ => 4 + n + s.costD + c
  | .iny off =>
    bif writes then 5 + n + s.costD + c else 4 + n + s.costD + costP (s.pointerAt off) s.regs.y + c
  | .sr _ => 3 + n + c

theorem length_directCalls (s : State) : s.directCalls.length = 2 + s.costD := by
  simp [State.directCalls, State.directIdles, State.costD]

theorem length_carryCalls (s : State) (k : Nat) (base i : Word) (writes : Bool) :
    (s.carryCalls k base i writes).length = bif writes then 1 else costP base i := by
  unfold State.carryCalls costP
  cases writes <;> cases pageCross base i <;> rfl

/-- The resolver's calls and those of the operand access make the row of the mode. -/
theorem length_resolverCalls_add (s : State) (mode : Mode) (writes : Bool) (n c : Nat) :
    (s.resolverCalls mode writes).length + n + c = s.operandRow mode writes n c := by
  cases mode <;> cases writes <;>
  simp [State.resolverCalls, State.operandRow, length_directCalls, length_carryCalls,
    State.pointerCalls] <;> omega

/-- The width of a flag, and the calls that the wider one costs. -/
structure WidthCost (w : State → Width) (c : State → Nat) : Prop where
  flag : FlagWidth w
  bytes : ∀ s, (w s).bytes = 1 + c s

theorem widthA_cost : WidthCost State.widthA State.costM :=
  ⟨flagWidth_widthA, fun s => by unfold State.widthA State.costM; cases s.flags.m <;> rfl⟩

theorem widthX_cost : WidthCost State.widthX State.costX :=
  ⟨flagWidth_widthX, fun s => by unfold State.widthX State.costX; cases s.flags.xf <;> rfl⟩

/-- The width of PHP, PHB, PHK and PLP is 8 bits. -/
theorem width8_cost : WidthCost (fun _ => .w8) (fun _ => 0) := ⟨flagWidth_const .w8, fun _ => rfl⟩

theorem length_operandReads (s : State) (k : Nat) (ea : EffAddr) (w : Width) :
    (s.operandReads k ea w).length = w.bytes := by
  cases w <;> rfl

theorem length_storeCalls (ea : EffAddr) (w : Width) (v : Word) : (storeCalls ea w v).length = w.bytes := by
  cases w <;> rfl

theorem length_modifyCalls (e : Bool) (ea : EffAddr) (w : Width) (v r : Word) :
    (modifyCalls e ea w v r).length = 1 + w.bytes := by
  cases w <;> rfl

theorem length_pushCalls (wrap : Bool) (sp : Word) (k : Nat) (bytes : List Byte) :
    (pushCalls wrap sp k bytes).length = bytes.length := by
  induction bytes generalizing k with
  | nil => rfl
  | cons b rest ih => simp [pushCalls, ih]

theorem length_pullCalls (s : State) (wrap : Bool) (n count : Nat) :
    (s.pullCalls wrap n count).length = count := by
  simp [State.pullCalls]

/-! ### Footprints of the templates -/

/-- The bus calls of an instruction that leaves the store `mem`, before any other effect. -/
theorem footprint_stored {i : Instr} {s : State} {len : Nat} {cs : List BusCall} {mem : Memory}
    (hp : PollsOldI i) (hcs : cs.length = busCalls s i) (hmem : s.mem.wf = true → mem.wf = true) :
    Footprint i s { s.ranThrough len cs s.flags.i with mem := mem } where
  regs := by simp [framedRegs]
  flags := by simp [framedFlags]
  inv h := h.of_modes rfl rfl rfl (hmem h.mem_wf) h.emulation_stack h.index_high
  calls := ⟨cs, hcs, by rw [hp]; rfl⟩

theorem footprint_ranThrough {i : Instr} {s : State} {len : Nat} {cs : List BusCall} (hp : PollsOldI i)
    (hcs : cs.length = busCalls s i) : Footprint i s (s.ranThrough len cs s.flags.i) :=
  footprint_stored hp hcs id

/-- An effect after the bus calls of an instruction. -/
theorem Footprint.effect {i : Instr} {s u t : State} (h : Footprint i s u) (ht : Effect i u t)
    (hp : PollsOldI i) (he : u.flags.e = s.flags.e) : Footprint i s t where
  toFrame := h.toFrame.trans ht.toFrame he
  calls := by
    obtain ⟨cs, hcs, hu⟩ := h.calls
    refine ⟨cs, hcs, ?_⟩
    rw [ht.rest, hu, hp, hp]

theorem hasFootprint_read {i : Instr} {w : State → Width} {c : State → Nat} {mode : Mode} {op : ReadOp}
    (hi : AppliesRead w op (i, mode)) (hw : WidthCost w c) (hp : PollsOldI i)
    (hrow : ∀ s, busCalls s i = s.operandRow mode false 1 (c s))
    (hop : ∀ n m u, Effect i u (op n m u)) : HasFootprint i := by
  intro s
  refine ⟨_, by rw [hi s, complete_next, readInstr_run w mode op s fun _ _ => hw.flag _ _ rfl], ?_⟩
  refine (footprint_ranThrough hp ?_).effect (hop _ _ _) hp rfl
  rw [hrow, ← length_resolverCalls_add, State.readCalls, List.length_append, length_operandReads,
    hw.bytes, Nat.add_assoc]

theorem hasFootprint_immediate {i : Instr} {w : State → Width} {c : State → Nat} {v : Imm} {op : ReadOp}
    (hi : ∀ s, exec i s = complete (immediateInstr w v op) s) (hw : WidthCost w c) (hp : PollsOldI i)
    (hrow : ∀ s, busCalls s i = 2 + c s) (hop : ∀ n m u, Effect i u (op n m u)) : HasFootprint i := by
  intro s
  refine ⟨_, by rw [hi s, complete_next, immediateInstr_run w v op s fun _ _ => hw.flag _ _ rfl], ?_⟩
  refine (footprint_ranThrough hp ?_).effect (hop _ _ _) hp rfl
  have hbytes : (w s).immBytes = (w s).bytes := by cases w s <;> rfl
  rw [hrow, length_fetchCalls, hbytes, hw.bytes]
  omega

theorem hasFootprint_store {i : Instr} {w : State → Width} {c : State → Nat} {mode : Mode}
    {value : State → Word} (hi : AppliesStore w value (i, mode)) (hw : WidthCost w c)
    (hv : CallsKeep value) (hp : PollsOldI i)
    (hrow : ∀ s, busCalls s i = s.operandRow mode true 1 (c s)) : HasFootprint i := by
  intro s
  refine ⟨_, (hi.storesBy hw.flag hv s).1, ?_⟩
  have hcs : (s.resolverCalls mode true ++ storeCalls (s.effAddr mode) (w s) (value s)).length =
      busCalls s i := by
    rw [hrow, ← length_resolverCalls_add, List.length_append, length_storeCalls, hw.bytes,
      Nat.add_assoc]
  exact footprint_stored hp hcs (wf_store _ _ _ _)

/-- The result writes no flag but N, Z and C. -/
def WritesNZC (result : Width → Word → Word → Flags → Word × Flags) : Prop :=
  ∀ w v a f, (result w v a f).2 =
    { f with n := (result w v a f).2.n, z := (result w v a f).2.z, c := (result w v a f).2.c }

/-- A result in A, or in memory alone, whose flags are new in N, Z and C. -/
theorem effect_writesNZC {i : Instr} {u : State} {a : Word} {f : Flags}
    (hf : f = { u.flags with n := f.n, z := f.z, c := f.c }) :
    Effect i u { u with regs.a := a, flags := f } :=
  .of_data (by rw [hf]) (.inr (by rw [hf])) (.inl rfl) (.inl rfl)

/-- The calls and the writes of a modify instruction, with flags of which N, Z and C alone are new. -/
theorem footprint_modified {i : Instr} {s : State} {mode : Mode} {v r : Word} {f : Flags}
    (hf : f = { s.flags with n := f.n, z := f.z, c := f.c }) (hp : PollsOldI i)
    (hrow : busCalls s i = s.operandRow mode true 3 (2 * s.costM)) :
    Footprint i s
      { s.ranThrough (1 + mode.operandBytes)
          (s.resolverCalls mode true ++
            s.operandReads (s.resolverCalls mode true).length (s.effAddr mode) s.widthA ++
            modifyCalls s.flags.e (s.effAddr mode) s.widthA v r) s.flags.i with
        flags := f
        mem := s.mem.modify s.flags.e (s.effAddr mode) s.widthA v r } := by
  have hcs : (s.resolverCalls mode true ++
      s.operandReads (s.resolverCalls mode true).length (s.effAddr mode) s.widthA ++
      modifyCalls s.flags.e (s.effAddr mode) s.widthA v r).length = busCalls s i := by
    rw [hrow, ← length_resolverCalls_add, List.length_append, List.length_append,
      length_operandReads, length_modifyCalls, widthA_cost.bytes]
    omega
  have hwritten := footprint_stored (len := 1 + mode.operandBytes) hp hcs
    (wf_modify s.mem s.flags.e (s.effAddr mode) s.widthA v r)
  exact hwritten.effect (effect_writesNZC (a := s.regs.a) hf) hp rfl

theorem hasFootprint_modify {i : Instr} {mode : Mode} {op : ModifyOp}
    {result : Width → Word → Word → Flags → Word × Flags} (hi : AppliesModify op (i, mode))
    (hop : ModifierResult op result) (hres : WritesNZC result) (hp : PollsOldI i)
    (hrow : ∀ s, busCalls s i = s.operandRow mode true 3 (2 * s.costM)) : HasFootprint i := fun s =>
  ⟨_, (hi.modifiesBy hop s).1, footprint_modified (hres _ _ _ _) hp (hrow s)⟩

theorem footprint_afterImplied {i : Instr} {s : State} (hp : PollsOldI i) (hrow : busCalls s i = 2) :
    Footprint i s s.afterImplied := footprint_ranThrough hp hrow.symm

theorem hasFootprint_implied {i : Instr} {effect : State → State}
    (hi : ∀ s, exec i s = complete (impliedInstr effect) s) (hp : PollsOldI i)
    (hrow : ∀ s, busCalls s i = 2) (heffect : ∀ u, Effect i u (effect u)) : HasFootprint i := by
  intro s
  refine ⟨_, by rw [hi s, complete_next, impliedInstr_run], ?_⟩
  exact (footprint_afterImplied hp (hrow s)).effect (heffect _) hp rfl

theorem hasFootprint_accumulator {i : Instr} {op : ModifyOp}
    {result : Width → Word → Word → Flags → Word × Flags} (hi : AppliesToAcc op i)
    (hop : ModifierResult op result) (hres : WritesNZC result) (hp : PollsOldI i)
    (hrow : ∀ s, busCalls s i = 2) : HasFootprint i := by
  intro s
  refine ⟨_, hi.accModifiedBy hop s, ?_⟩
  exact (footprint_afterImplied hp (hrow s)).effect (effect_writesNZC (hres _ _ _ _)) hp rfl

/-- The row of R338 for a branch is the list of its calls. -/
theorem branchCalls_eq (s : State) (take : Bool) (disp : Byte) :
    s.branchCalls take disp = if take then (s.branchCallsTaken disp).length else 2 := by
  cases take with
  | false => rfl
  | true =>
    have hcalls : s.branchCalls true disp = 2 + 1 +
        if s.flags.e && highByte (s.branchTarget disp) != highByte s.branchNext then 1 else 0 := by
      rw [State.branchTarget, ← add_signExt]
      rfl
    rw [hcalls, if_congr (branchCrosses_iff s disp) rfl rfl, State.branchCallsTaken,
      List.length_append, length_fetchCalls, List.length_replicate]
    split <;> rfl

/-- A branch taken (R220) moves PC alone. -/
theorem hasFootprint_branch {i : Instr} {take : Flags → Bool} {disp : Byte}
    (hi : ∀ s, exec i s = complete (branchInstr take disp) s) (hp : PollsOldI i)
    (hrow : ∀ s, busCalls s i = s.branchCalls (take s.flags) disp) : HasFootprint i := by
  intro s
  refine ⟨_, exec_branch (hi s) Iff.rfl, ?_⟩
  have hcount := branchCalls_eq s (take s.flags) disp
  rw [← hrow] at hcount
  split at hcount
  case isTrue htake =>
    rw [if_pos htake]
    exact (footprint_ranThrough (len := 2) hp hcount.symm).effect
      (.of_data rfl (.inr rfl) (.inl rfl) (.inl rfl)) hp rfl
  case isFalse htake =>
    rw [if_neg htake]
    exact footprint_ranThrough hp hcount.symm

/-! ### Footprints of bodies that move the stack (20_memory.md R70 to R74) -/

theorem highByte_stackDowns {sp : Word} (h : highByte sp = 0x01) (n : Nat) :
    highByte (stackDowns true sp n) = 0x01 := by
  cases n with
  | zero => exact h
  | succ n => exact highByte_joinBytes _ _

theorem highByte_stackUps {sp : Word} (h : highByte sp = 0x01) (n : Nat) :
    highByte (stackUps true sp n) = 0x01 := by
  cases n with
  | zero => exact h
  | succ n => exact highByte_joinBytes _ _

theorem highByte_pageFixed (sp : Word) : highByte (pageFixed true sp) = 0x01 := highByte_joinBytes _ _

/-- S stays in page 1 while E = 1 (10_state.md R24). -/
def KeepsPage (s : State) (sp : Word) : Prop :=
  s.flags.e = true → highByte s.regs.s = 0x01 → highByte sp = 0x01

theorem keepsPage_downs (s : State) (n : Nat) : KeepsPage s (stackDowns s.flags.e s.regs.s n) :=
  fun he h => he ▸ highByte_stackDowns h n

theorem keepsPage_ups (s : State) (n : Nat) : KeepsPage s (stackUps s.flags.e s.regs.s n) :=
  fun he h => he ▸ highByte_stackUps h n

theorem keepsPage_fixed (s : State) (sp : Word) : KeepsPage s (pageFixed s.flags.e sp) :=
  fun he _ => he ▸ highByte_pageFixed sp

/-- A body that moves S writes the stack, PC and, where R28 lists it, PBR. -/
theorem Frame.of_stack {i : Instr} {s t : State} (hs : writesS i = true) (hflags : t.flags = s.flags)
    (hregs : t.regs = { s.regs with s := t.regs.s, pc := t.regs.pc, pbr := t.regs.pbr })
    (hpbr : writesPBR i = true ∨ t.regs.pbr = s.regs.pbr) (hmem : s.mem.wf = true → t.mem.wf = true)
    (hpage : KeepsPage s t.regs.s) : Frame i s t where
  regs := by
    generalize t.regs.s = sp, t.regs.pc = pc, t.regs.pbr = pbr at *
    rw [hregs]
    obtain hpbr | rfl := hpbr <;> simp [framedRegs, *]
  flags := by simp [hflags, framedFlags]
  inv h := by
    refine h.of_modes (by rw [hflags]) (by rw [hflags]) (by rw [hflags]) (hmem h.mem_wf) ?_ ?_
    · rw [hflags]
      exact fun he => hpage he (h.emulation_stack he)
    · rw [hflags, hregs]
      exact h.index_high

theorem footprint_stack {i : Instr} {s t : State} {cs : List BusCall} (hs : writesS i = true)
    (hp : PollsOldI i) (hcs : cs.length = busCalls s i)
    (ht : t = { s.ranThrough 0 cs s.flags.i with
      regs := { s.regs with s := t.regs.s, pc := t.regs.pc, pbr := t.regs.pbr }, mem := t.mem })
    (hpbr : writesPBR i = true ∨ t.regs.pbr = s.regs.pbr) (hmem : s.mem.wf = true → t.mem.wf = true)
    (hpage : KeepsPage s t.regs.s) : Footprint i s t where
  toFrame := .of_stack hs (by rw [ht]; rfl) (by rw [ht]) hpbr hmem hpage
  calls := ⟨cs, hcs, by rw [hp, ht]⟩

theorem length_pushBytes (w : Width) (v : Word) : (w.pushBytes v).length = w.bytes := by
  cases w <;> rfl

theorem hasFootprint_push {i : Instr} {w : State → Width} {c : State → Nat} {value : State → Word}
    (hi : ∀ s, exec i s = complete (pushInstr w value) s) (hw : WidthCost w c) (hv : CallsKeep value)
    (hs : writesS i = true) (hp : PollsOldI i) (hrow : ∀ s, busCalls s i = 3 + c s) :
    HasFootprint i := by
  intro s
  refine ⟨_, (pushesBy_of_pushInstr hi hw.flag hv s).1, ?_⟩
  refine footprint_stack hs hp ?_ rfl (.inr rfl) (wf_pushed _ _ _ _ _) (keepsPage_downs s _)
  rw [List.length_append, length_pushCalls, length_pushBytes, hw.bytes, hrow, ← Nat.add_assoc]
  rfl

theorem hasFootprint_pull {i : Instr} {w : State → Width} {c : State → Nat} {op : ReadOp}
    (hi : ∀ s, exec i s = complete (pullInstr w op) s) (hw : WidthCost w c) (hs : writesS i = true)
    (hp : PollsOldI i) (hrow : ∀ s, busCalls s i = 4 + c s) (hop : ∀ n m u, Effect i u (op n m u)) :
    HasFootprint i := by
  intro s
  refine ⟨_, by rw [hi s, complete_next, pullInstr_run w op s hw.flag], ?_⟩
  have hcs : (s.fetchCalls 1 ++ [BusCall.idle, .idle] ++ s.pullCalls s.flags.e 3 (w s).bytes).length =
      busCalls s i := by
    rw [List.length_append, length_pullCalls, hw.bytes, hrow, ← Nat.add_assoc]
    rfl
  have hpulled : Footprint i s (s.afterPull (w s)) :=
    footprint_stack hs hp hcs rfl (.inr rfl) id (keepsPage_ups s _)
  exact hpulled.effect (hop _ _ _) hp rfl

/-! ### The remaining effects and bodies -/

/-- A change of registers and flags that keeps E, M, XF and the index registers. -/
theorem Effect.of_kept_modes {i : Instr} {u t : State} (hregs : t.regs = framedRegs i u.regs t.regs)
    (hflags : t.flags = framedFlags i u.flags t.flags)
    (hrest : t = { u with regs := t.regs, flags := t.flags })
    (hmodes : t.flags.e = u.flags.e ∧ t.flags.m = u.flags.m ∧ t.flags.xf = u.flags.xf)
    (hindex : t.regs.x = u.regs.x ∧ t.regs.y = u.regs.y) (hpage : KeepsPage u t.regs.s) :
    Effect i u t := by
  obtain ⟨he, hm, hxf⟩ := hmodes
  refine { regs := hregs, flags := hflags, rest := hrest, inv := fun h => ?_ }
  refine h.of_modes he hm hxf (by rw [hrest]; exact h.mem_wf) ?_ ?_
  · rw [he]
    exact fun hu => hpage hu (h.emulation_stack hu)
  · rw [hxf, hindex.1, hindex.2]
    exact h.index_high

/-- Loading the flag byte (R34, R36), for an instruction that may write every flag in it. -/
theorem effect_flagsLoaded {i : Instr} (u : State) (b : Byte) (hv : writesV i = true)
    (hdf : writesDF i = true) (hi : writesI i = true) (hw : writesWidths i = true) :
    Effect i u (u.flagsLoaded b) where
  regs := by simp [framedRegs, State.flagsLoaded]
  flags := by
    cases he : u.flags.e <;>
    simp [framedFlags, mayWriteWidths, State.flagsLoaded, flagsFromByte, he, hv, hdf, hi, hw]
  rest := rfl
  inv h := by
    refine ⟨h.mem_wf, fun he => ?_, h.emulation_stack, fun hxf => ?_⟩
    · have he' : u.flags.e = true := he
      simpa [State.flagsLoaded, flagsFromByte, he'] using h.emulation_widths he'
    · have hxf' : (flagsFromByte b u.flags).xf = true := hxf
      simp [State.flagsLoaded, hxf', indexFit]

theorem mayWriteWidths_xce (f : Flags) : mayWriteWidths .xce f = true := Bool.or_true (!f.e)

/-- On the way into emulation mode XCE forces all that the invariant asks for; on the way out it asks for
less (R255). -/
theorem effect_exchangeCE (u : State) : Effect .xce u u.exchangeCE := by
  rw [exchangeCE_eq]
  refine { regs := rfl, flags := ?_, rest := rfl, inv := fun h => ⟨h.mem_wf, ?_, ?_, ?_⟩ }
  · simp only [framedFlags, mayWriteWidths_xce, cond_true]
    rfl
  · intro (hc : u.flags.c = true)
    simp [hc]
  · intro (hc : u.flags.c = true)
    simp [hc, pageFixed]
  · intro (hxf : (u.flags.xf || u.flags.c) = true)
    cases hc : u.flags.c with
    | true => simp [indexFit]
    | false => simpa [indexFit] using h.index_high (by simpa [hc] using hxf)

theorem hasFootprint_mask {i : Instr} {effect : State → State}
    (hi : ∀ s, exec i s = complete (maskInstr effect) s) (hp : PollsOldI i)
    (hrow : ∀ s, busCalls s i = 3) (heffect : ∀ u, Effect i u (effect u)) : HasFootprint i := by
  intro s
  refine ⟨_, by rw [hi s, complete_next, maskInstr_run], ?_⟩
  have hcs : (s.fetchCalls 2 ++ [BusCall.idle]).length = busCalls s i := (hrow s).symm
  exact (footprint_ranThrough hp hcs).effect (heffect _) hp rfl

theorem effect_loadFlags {i : Instr} (u : State) (b : Byte) (hv : writesV i = true)
    (hdf : writesDF i = true) (hi : writesI i = true) (hw : writesWidths i = true) :
    Effect i u (u.loadFlags b) :=
  loadFlags_eq_flagsLoaded u b ▸ effect_flagsLoaded u b hv hdf hi hw

theorem hasFootprint_jsr (addr : Word) : HasFootprint (.jsr addr) := fun s =>
  ⟨_, (jsrResult s addr).1,
    footprint_stack rfl (fun _ _ => rfl) rfl rfl (.inr rfl) (wf_pushed _ _ _ _ _) (keepsPage_downs s 2)⟩

theorem hasFootprint_jsl (al : Addr) : HasFootprint (.jsl al) := fun s =>
  ⟨_, (jslResult s al).1,
    footprint_stack rfl (fun _ _ => rfl) rfl rfl (.inl rfl) (wf_pushed _ _ _ _ _) (keepsPage_fixed s _)⟩

theorem hasFootprint_rts : HasFootprint .rts := fun s =>
  ⟨_, (returnResults s).1,
    footprint_stack rfl (fun _ _ => rfl) rfl rfl (.inr rfl) id (keepsPage_ups s 2)⟩

theorem hasFootprint_rtl : HasFootprint .rtl := fun s =>
  ⟨_, (returnResults s).2,
    footprint_stack rfl (fun _ _ => rfl) rfl rfl (.inl rfl) id (keepsPage_fixed s _)⟩

theorem hasFootprint_phd : HasFootprint .phd := fun s =>
  ⟨_, (phdResult s).1,
    footprint_stack rfl (fun _ _ => rfl) rfl rfl (.inr rfl) (wf_pushed _ _ _ _ _) (keepsPage_fixed s _)⟩

theorem effect_setPC (i : Instr) (u : State) (v : Word) : Effect i u (u.setPC v) :=
  .of_data rfl (.inr rfl) (.inl rfl) (.inl rfl)

theorem effect_jumpLong (u : State) (al : Addr) (b : Byte) (v : Word) :
    Effect (.jml al) u (u.jumpLong b v) :=
  .of_kept_modes rfl rfl rfl ⟨rfl, rfl, rfl⟩ ⟨rfl, rfl⟩ fun _ h => h

theorem hasFootprint_jmpAbs (addr : Word) : HasFootprint (.jmpAbs addr) := fun s =>
  ⟨_, congrArg Host.Outcome.next (jumpAbsolute_run s addr),
    (footprint_ranThrough (fun _ _ => rfl) rfl).effect (effect_setPC _ _ _) (fun _ _ => rfl) rfl⟩

theorem hasFootprint_jmpInd (addr : Word) : HasFootprint (.jmpInd addr) := fun s =>
  ⟨_, congrArg Host.Outcome.next (jumpIndirect_run s addr),
    (footprint_ranThrough (fun _ _ => rfl) rfl).effect (effect_setPC _ _ _) (fun _ _ => rfl) rfl⟩

theorem hasFootprint_jml (al : Addr) : HasFootprint (.jml al) := fun s =>
  ⟨_, congrArg Host.Outcome.next (jumpLongAbsolute_run s al),
    (footprint_ranThrough (fun _ _ => rfl) rfl).effect (effect_jumpLong _ _ _ _) (fun _ _ => rfl) rfl⟩

theorem hasFootprint_plb : HasFootprint .plb := fun s =>
  ⟨_, (pullBankDirectResults s).1,
    { regs := rfl, flags := rfl, calls := ⟨_, rfl, rfl⟩
      inv := fun h => h.of_modes rfl rfl rfl h.mem_wf
        (fun he => keepsPage_fixed s _ he (h.emulation_stack he)) h.index_high }⟩

theorem hasFootprint_pld : HasFootprint .pld := fun s =>
  ⟨_, (pullBankDirectResults s).2,
    { regs := rfl, flags := rfl, calls := ⟨_, rfl, rfl⟩
      inv := fun h => h.of_modes rfl rfl rfl h.mem_wf
        (fun he => keepsPage_fixed s _ he (h.emulation_stack he)) h.index_high }⟩

theorem hasFootprint_xba : HasFootprint .xba := fun s =>
  ⟨_, xbaResult s,
    (footprint_ranThrough (len := 1) (cs := s.fetchCalls 1 ++ [.idle, .idle]) (fun _ _ => rfl) rfl).effect
      (.of_data rfl (.inr rfl) (.inl rfl) (.inl rfl)) (fun _ _ => rfl) rfl⟩

/-- A block move writes its indices at the width in force, so their high bytes stay clear (R269, R270). -/
theorem afterBlockMove_inv {s : State} (h : s.Inv) (dst src : Byte) (step : Word) :
    (s.afterBlockMove dst src step).Inv :=
  h.of_modes rfl rfl rfl (wf_write _ _ _ h.mem_wf) h.emulation_stack fun hxf =>
    ⟨highByte_index hxf (.inr ⟨_, rfl⟩) (h.index_high hxf).1,
      highByte_index hxf (.inr ⟨_, rfl⟩) (h.index_high hxf).2⟩

theorem hasFootprint_mvn (dst src : Byte) : HasFootprint (.mvn dst src) := fun s =>
  ⟨_, congrArg Host.Outcome.next (blockMove_run s dst src 1),
    { regs := rfl, flags := rfl, calls := ⟨_, rfl, rfl⟩
      inv := fun h => afterBlockMove_inv h dst src 1 }⟩

theorem hasFootprint_mvp (dst src : Byte) : HasFootprint (.mvp dst src) := fun s =>
  ⟨_, congrArg Host.Outcome.next (blockMove_run s dst src (-1)),
    { regs := rfl, flags := rfl, calls := ⟨_, rfl, rfl⟩
      inv := fun h => afterBlockMove_inv h dst src (-1) }⟩

/-- RTI polls with the flag I that it has pulled (R243). -/
theorem hasFootprint_rti : HasFootprint .rti := by
  intro s
  refine ⟨_, rtiResult s, ?_⟩
  refine { toFrame := ?_, calls := ⟨_, ?_, rfl⟩ }
  case refine_1 =>
    refine Frame.trans ?_ (effect_flagsLoaded _ _ rfl rfl rfl rfl).toFrame rfl
    exact .of_stack rfl rfl rfl (.inl rfl) id (keepsPage_ups s _)
  case refine_2 =>
    rw [List.length_append, length_pullCalls]
    unfold busCalls State.costE
    cases s.flags.e <;> rfl

/-- An entry leaves S in page 1 while E = 1, and writes no mode and no index register (R301). -/
theorem entered_inv {s : State} (h : s.Inv) (len : Nat) (cs : List BusCall) (v : Addr) (breakFlag : Bool) :
    (s.entered len cs v breakFlag).Inv :=
  h.of_modes rfl rfl rfl (wf_pushed _ _ _ _ _ h.mem_wf)
    (fun he => keepsPage_downs s _ he (h.emulation_stack he)) h.index_high

/-- BRK's frame has a byte less in emulation mode (R244, R301). -/
theorem hasFootprint_brk (sig : Byte) : HasFootprint (.brk sig) := by
  intro s
  refine ⟨_, (brkResult s sig).1, ?_⟩
  refine { regs := rfl, flags := rfl, inv := fun h => entered_inv h _ _ _ _, calls := ⟨_, ?_, rfl⟩ }
  simp only [List.length_append, length_fetchCalls, length_pushCalls, exceptionFrame, busCalls,
    State.costE]
  cases s.flags.e <;> rfl

/-! ### Every instruction -/

/-- Every instruction, by its template or its body: the rows of R338, the poll and the frame hold of each by
its place in the dispatcher. -/
theorem hasFootprint (i : Instr) : HasFootprint i := by
  cases i
  case oraSr | oraDp | oraAbs | oraLong | oraIndY | oraInd | oraDpX | oraAbsY | oraAbsX | andSr | andDp
      | andAbs | andLong | andIndY | andInd | andDpX | andAbsY | andAbsX | eorSr | eorDp | eorAbs |
      eorLong | eorIndY | eorInd | eorDpX | eorAbsY | eorAbsX | ldaSr | ldaDp | ldaAbs | ldaLong |
      ldaIndY | ldaInd | ldaDpX | ldaAbsY | ldaAbsX =>
    exact hasFootprint_read (fun _ => rfl) widthA_cost (fun _ _ => rfl) (fun _ => rfl)
      fun _ _ _ => effect_setANZ _ _ _ _
  case adcSr | adcDp | adcAbs | adcLong | adcIndY | adcInd | adcDpX | adcAbsY | adcAbsX | sbcSr | sbcDp
      | sbcAbs | sbcLong | sbcIndY | sbcInd | sbcDpX | sbcAbsY | sbcAbsX =>
    exact hasFootprint_read (fun _ => rfl) widthA_cost (fun _ _ => rfl) (fun _ => rfl)
      fun _ _ _ => effect_setSum _ rfl _ _
  case cmpSr | cmpDp | cmpAbs | cmpLong | cmpIndY | cmpInd | cmpDpX | cmpAbsY | cmpAbsX =>
    exact hasFootprint_read (fun _ => rfl) widthA_cost (fun _ _ => rfl) (fun _ => rfl)
      fun _ _ _ => effect_compare _ _ _ _ _
  case bitDp | bitAbs | bitDpX | bitAbsX =>
    exact hasFootprint_read (fun _ => rfl) widthA_cost (fun _ _ => rfl) (fun _ => rfl)
      fun _ _ _ => .of_data rfl (.inl rfl) (.inl rfl) (.inl rfl)
  case cpyDp | cpyAbs | cpxDp | cpxAbs =>
    exact hasFootprint_read (fun _ => rfl) widthX_cost (fun _ _ => rfl) (fun _ => rfl)
      fun _ _ _ => effect_compare _ _ _ _ _
  case ldxDp | ldxAbs | ldxDpY | ldxAbsY =>
    exact hasFootprint_read (fun _ => rfl) widthX_cost (fun _ _ => rfl) (fun _ => rfl)
      fun _ _ _ => effect_setX_setNZ _ _ _ _ _
  case ldyDp | ldyAbs | ldyDpX | ldyAbsX =>
    exact hasFootprint_read (fun _ => rfl) widthX_cost (fun _ _ => rfl) (fun _ => rfl)
      fun _ _ _ => effect_setY_setNZ _ _ _ _ _
  case oraImm | andImm | eorImm | ldaImm =>
    exact hasFootprint_immediate (fun _ => rfl) widthA_cost (fun _ _ => rfl) (fun _ => rfl)
      fun _ _ _ => effect_setANZ _ _ _ _
  case adcImm | sbcImm =>
    exact hasFootprint_immediate (fun _ => rfl) widthA_cost (fun _ _ => rfl) (fun _ => rfl)
      fun _ _ _ => effect_setSum _ rfl _ _
  case cmpImm =>
    exact hasFootprint_immediate (fun _ => rfl) widthA_cost (fun _ _ => rfl) (fun _ => rfl)
      fun _ _ _ => effect_compare _ _ _ _ _
  case bitImm =>
    exact hasFootprint_immediate (fun _ => rfl) widthA_cost (fun _ _ => rfl) (fun _ => rfl)
      fun _ _ _ => effect_setZ _ _ _
  case cpyImm | cpxImm =>
    exact hasFootprint_immediate (fun _ => rfl) widthX_cost (fun _ _ => rfl) (fun _ => rfl)
      fun _ _ _ => effect_compare _ _ _ _ _
  case ldxImm =>
    exact hasFootprint_immediate (fun _ => rfl) widthX_cost (fun _ _ => rfl) (fun _ => rfl)
      fun _ _ _ => effect_setX_setNZ _ _ _ _ _
  case ldyImm =>
    exact hasFootprint_immediate (fun _ => rfl) widthX_cost (fun _ _ => rfl) (fun _ => rfl)
      fun _ _ _ => effect_setY_setNZ _ _ _ _ _
  case staSr | staDp | staAbs | staLong | staIndY | staInd | staDpX | staAbsY | staAbsX =>
    exact hasFootprint_store (fun _ => rfl) widthA_cost State.getA_afterCalls
      (fun _ _ => rfl) (fun _ => rfl)
  case stzDp | stzDpX | stzAbs | stzAbsX =>
    exact hasFootprint_store (fun _ => rfl) widthA_cost (fun _ _ _ => rfl) (fun _ _ => rfl) (fun _ => rfl)
  case styDp | stxDp | styAbs | stxAbs | styDpX | stxDpY =>
    exact hasFootprint_store (fun _ => rfl) widthX_cost (fun _ _ _ => rfl) (fun _ _ => rfl) (fun _ => rfl)
  case aslDp | aslAbs | aslDpX | aslAbsX =>
    exact hasFootprint_modify (fun _ => rfl) opAsl_result (fun _ _ _ _ => rfl)
      (fun _ _ => rfl) (fun _ => rfl)
  case lsrDp | lsrAbs | lsrDpX | lsrAbsX =>
    exact hasFootprint_modify (fun _ => rfl) opLsr_result (fun _ _ _ _ => rfl)
      (fun _ _ => rfl) (fun _ => rfl)
  case rolDp | rolAbs | rolDpX | rolAbsX =>
    exact hasFootprint_modify (fun _ => rfl) opRol_result (fun _ _ _ _ => rfl)
      (fun _ _ => rfl) (fun _ => rfl)
  case rorDp | rorAbs | rorDpX | rorAbsX =>
    exact hasFootprint_modify (fun _ => rfl) opRor_result (fun _ _ _ _ => rfl)
      (fun _ _ => rfl) (fun _ => rfl)
  case incDp | incAbs | incDpX | incAbsX =>
    exact hasFootprint_modify (fun _ => rfl) opInc_result (fun _ _ _ _ => rfl)
      (fun _ _ => rfl) (fun _ => rfl)
  case decDp | decAbs | decDpX | decAbsX =>
    exact hasFootprint_modify (fun _ => rfl) opDec_result (fun _ _ _ _ => rfl)
      (fun _ _ => rfl) (fun _ => rfl)
  case tsbDp | tsbAbs =>
    exact hasFootprint_modify (fun _ => rfl) opTsb_result (fun _ _ _ _ => rfl)
      (fun _ _ => rfl) (fun _ => rfl)
  case trbDp | trbAbs =>
    exact hasFootprint_modify (fun _ => rfl) opTrb_result (fun _ _ _ _ => rfl)
      (fun _ _ => rfl) (fun _ => rfl)
  case aslAcc =>
    exact hasFootprint_accumulator (fun _ => rfl) opAsl_result (fun _ _ _ _ => rfl)
      (fun _ _ => rfl) (fun _ => rfl)
  case lsrAcc =>
    exact hasFootprint_accumulator (fun _ => rfl) opLsr_result (fun _ _ _ _ => rfl)
      (fun _ _ => rfl) (fun _ => rfl)
  case rolAcc =>
    exact hasFootprint_accumulator (fun _ => rfl) opRol_result (fun _ _ _ _ => rfl)
      (fun _ _ => rfl) (fun _ => rfl)
  case rorAcc =>
    exact hasFootprint_accumulator (fun _ => rfl) opRor_result (fun _ _ _ _ => rfl)
      (fun _ _ => rfl) (fun _ => rfl)
  case incAcc =>
    exact hasFootprint_accumulator (fun _ => rfl) opInc_result (fun _ _ _ _ => rfl)
      (fun _ _ => rfl) (fun _ => rfl)
  case decAcc =>
    exact hasFootprint_accumulator (fun _ => rfl) opDec_result (fun _ _ _ _ => rfl)
      (fun _ _ => rfl) (fun _ => rfl)
  case inx | dex | tax | tsx | tyx =>
    exact hasFootprint_implied (fun _ => rfl)
      (fun _ _ => rfl) (fun _ => rfl) fun _ => effect_setX_setNZ _ _ _ _ _
  case iny | dey | tay | txy =>
    exact hasFootprint_implied (fun _ => rfl)
      (fun _ _ => rfl) (fun _ => rfl) fun _ => effect_setY_setNZ _ _ _ _ _
  case txa | tya =>
    exact hasFootprint_implied (fun _ => rfl)
      (fun _ _ => rfl) (fun _ => rfl) fun _ => effect_setANZ _ _ _ _
  case tdc | tsc | nop =>
    exact hasFootprint_implied (fun _ => rfl)
      (fun _ _ => rfl) (fun _ => rfl) fun _ => .of_data rfl (.inr rfl) (.inl rfl) (.inl rfl)
  case clc | sec =>
    exact hasFootprint_implied (fun _ => rfl) (fun _ _ => rfl) (fun _ => rfl) fun _ => effect_setC _ _ _
  case clv =>
    exact hasFootprint_implied (fun _ => rfl)
      (fun _ _ => rfl) (fun _ => rfl) fun _ => .of_data rfl (.inl rfl) (.inl rfl) (.inl rfl)
  case cli | sei | cld | sed | tcd =>
    exact hasFootprint_implied (fun _ => rfl)
      (fun _ _ => rfl) (fun _ => rfl) fun _ => .of_kept_modes rfl rfl rfl ⟨rfl, rfl, rfl⟩ ⟨rfl, rfl⟩ fun _ h => h
  case txs | tcs =>
    exact hasFootprint_implied (fun _ => rfl)
      (fun _ _ => rfl) (fun _ => rfl) fun _ => .of_kept_modes rfl rfl rfl ⟨rfl, rfl, rfl⟩ ⟨rfl, rfl⟩ (keepsPage_fixed _ _)
  case xce =>
    exact hasFootprint_implied (fun _ => rfl) (fun _ _ => rfl) (fun _ => rfl) fun _ => effect_exchangeCE _
  case bpl | bmi | bvc | bvs | bcc | bcs | bne | beq | bra =>
    exact hasFootprint_branch (fun _ => rfl) (fun _ _ => rfl) (fun _ => rfl)
  case pha =>
    exact hasFootprint_push (fun _ => rfl) widthA_cost State.getA_afterCalls rfl
      (fun _ _ => rfl) (fun _ => rfl)
  case phx | phy =>
    exact hasFootprint_push (fun _ => rfl) widthX_cost (fun _ _ _ => rfl) rfl
      (fun _ _ => rfl) (fun _ => rfl)
  case php | phb | phk =>
    exact hasFootprint_push (fun _ => rfl) width8_cost (fun _ _ _ => rfl) rfl
      (fun _ _ => rfl) (fun _ => rfl)
  case pla =>
    exact hasFootprint_pull (fun _ => rfl) widthA_cost rfl (fun _ _ => rfl) (fun _ => rfl)
      fun _ _ _ => effect_setANZ _ _ _ _
  case plx =>
    exact hasFootprint_pull (fun _ => rfl) widthX_cost rfl (fun _ _ => rfl) (fun _ => rfl)
      fun _ _ _ => effect_setX_setNZ _ _ _ _ _
  case ply =>
    exact hasFootprint_pull (fun _ => rfl) widthX_cost rfl (fun _ _ => rfl) (fun _ => rfl)
      fun _ _ _ => effect_setY_setNZ _ _ _ _ _
  case plp =>
    exact hasFootprint_pull (fun _ => rfl) width8_cost rfl (fun _ _ => rfl) (fun _ => rfl)
      fun _ _ _ => effect_loadFlags _ _ rfl rfl rfl rfl
  case rep | sep =>
    exact hasFootprint_mask (fun _ => rfl)
      (fun _ _ => rfl) (fun _ => rfl) fun _ => effect_loadFlags _ _ rfl rfl rfl rfl
  case jmpAbs addr => exact hasFootprint_jmpAbs addr
  case jmpInd addr => exact hasFootprint_jmpInd addr
  case jml al => exact hasFootprint_jml al
  case jsr addr => exact hasFootprint_jsr addr
  case jsl al => exact hasFootprint_jsl al
  case rts => exact hasFootprint_rts
  case rtl => exact hasFootprint_rtl
  case rti => exact hasFootprint_rti
  case brk sig => exact hasFootprint_brk sig
  case phd => exact hasFootprint_phd
  case plb => exact hasFootprint_plb
  case pld => exact hasFootprint_pld
  case xba => exact hasFootprint_xba
  case mvn dst src => exact hasFootprint_mvn dst src
  case mvp dst src => exact hasFootprint_mvp dst src

theorem footprint_of_exec {i : Instr} {s t : State} (h : exec i s = .next t) : Footprint i s t := by
  obtain ⟨u, hu, hfoot⟩ := hasFootprint i s
  cases h.symm.trans hu
  exact hfoot

/-- Settles O52: the calls of the footprint, as many as R338 says. -/
theorem everyInstructionCompletes : Obligations.EveryInstructionCompletes := by
  intro i s
  obtain ⟨t, hexec, hfoot⟩ := hasFootprint i s
  obtain ⟨cs, hcs, ht⟩ := hfoot.calls
  have hlog : t.log = s.log ++ cs := congrArg State.log ht
  rw [← hcs]
  have hfault : t.fault = s.fault := by rw [ht]; rfl
  exact ⟨t, hexec, by rw [hlog, List.length_append], congrArg State.env ht, congrArg State.line ht,
    congrArg State.ilatch ht, hfault⟩

/-! ### Who writes what (10_state.md R24, R25, R28, R31) -/

/-- What a frame says of one field: only an instruction that writes it changes it. -/
theorem writes_of_ne {α : Type} {writes : Bool} {new old : α} (h : new = bif writes then new else old)
    (hne : new ≠ old) : writes = true := by
  cases writes with
  | false => exact absurd h hne
  | true => rfl

/-- Settles O53: RTI leaves PBR in emulation mode and BRK loads it with 0, by their own results. -/
theorem programBankWriters : Obligations.ProgramBankWriters := by
  intro i s t hexec hne
  refine ⟨writes_of_ne (congrArg Regs.pbr (footprint_of_exec hexec).regs) hne, ?rti, ?brk⟩
  case rti =>
    rintro rfl
    cases hexec.symm.trans (rtiResult s)
    cases he : s.flags.e with
    | false => rfl
    | true => simp [State.flagsLoaded, he] at hne
  case brk =>
    rintro ⟨sig, rfl⟩
    cases hexec.symm.trans (brkResult s sig).1
    rfl

/-- Settles O54: the registers of the frame. -/
theorem stackDirectBankWriters : Obligations.StackDirectBankWriters := by
  intro i s t hexec
  have hregs := (footprint_of_exec hexec).regs
  exact ⟨writes_of_ne (congrArg Regs.s hregs), writes_of_ne (congrArg Regs.d hregs),
    writes_of_ne (congrArg Regs.dbr hregs)⟩

/-- XCE changes M or XF on the way into emulation mode only (R255). -/
theorem xce_widths {s t : State} (hexec : exec .xce s = .next t)
    (hne : t.flags.m ≠ s.flags.m ∨ t.flags.xf ≠ s.flags.xf) : t.flags.e = true := by
  cases hexec.symm.trans (xceResult s)
  cases hc : s.flags.c <;> simp [hc] at hne ⊢

/-- Settles O55: the flags of the frame; M and XF change in native mode, or by XCE. -/
theorem flagWriters : Obligations.FlagWriters := by
  intro i s t hexec
  have hflags := (footprint_of_exec hexec).flags
  refine ⟨writes_of_ne (congrArg Flags.v hflags), writes_of_ne (congrArg Flags.df hflags),
    writes_of_ne (congrArg Flags.i hflags),
    fun hne => eq_xce_of_writesE (writes_of_ne (congrArg Flags.e hflags) hne), fun hne => ?widths⟩
  case widths =>
    have hmay : mayWriteWidths i s.flags = true :=
      hne.elim (writes_of_ne (congrArg Flags.m hflags)) (writes_of_ne (congrArg Flags.xf hflags))
    obtain ⟨hw, hmode⟩ := (Bool.and_eq_true _ _).mp hmay
    refine ⟨hw, ?_⟩
    obtain he | hxce := (Bool.or_eq_true _ _).mp hmode
    · exact .inl (by simpa using he)
    · obtain rfl := eq_xce_of_writesE hxce
      exact .inr ⟨xce_widths hexec hne, rfl⟩

end Sys2Proof.Machine
end

section
/-! PROOFS. The step (60_exceptions.md R290 to R292, R299, R300; 70_reset_and_hazards.md R313, R338): what a
step can do is said once, by the four branches of R300, and the rules about steps are read off it. -/

namespace Sys2Proof.Machine

open Sys2Proof

/-! ### The fetched bytes decode (R300 steps 3 to 5) -/

/-- With as many bytes as the width flags call for, a format makes an instruction and leaves no byte. -/
theorem exists_build_of_length {m xf : Bool} {fmt : Format} {bs : List Byte}
    (h : bs.length = fmt.operandBytes m xf) : ∃ i, fmt.build m xf bs = some (i, []) := by
  cases fmt with
  | plain j =>
    obtain rfl : bs = [] := List.length_eq_zero_iff.mp h
    exact ⟨j, rfl⟩
  | byte f =>
    obtain ⟨b, rfl⟩ := List.length_eq_one_iff.mp h
    exact ⟨f b, rfl⟩
  | word f =>
    obtain ⟨lo, hi, rfl⟩ := List.length_eq_two.mp h
    exact ⟨_, rfl⟩
  | banks f =>
    obtain ⟨dst, src, rfl⟩ := List.length_eq_two.mp h
    exact ⟨_, rfl⟩
  | long f =>
    obtain ⟨lo, hi, bank, rfl⟩ := List.length_eq_three.mp h
    exact ⟨_, rfl⟩
  | immM f =>
    cases m with
    | true =>
      obtain ⟨b, rfl⟩ := List.length_eq_one_iff.mp h
      exact ⟨_, rfl⟩
    | false =>
      obtain ⟨lo, hi, rfl⟩ := List.length_eq_two.mp h
      exact ⟨_, rfl⟩
  | immX f =>
    cases xf with
    | true =>
      obtain ⟨b, rfl⟩ := List.length_eq_one_iff.mp h
      exact ⟨_, rfl⟩
    | false =>
      obtain ⟨lo, hi, rfl⟩ := List.length_eq_two.mp h
      exact ⟨_, rfl⟩

/-- The opcode byte the next fetch returns. -/
def State.nextOpcode (s : State) : Byte := s.byteAt 0 s.fetchAddr

/-- The operand bytes the fetches return, as many as the opcode has under the flags in force (R91). -/
theorem instrBytes_eq_cons (s : State) :
    ∃ operands, s.instrBytes = s.nextOpcode :: operands ∧
      operands.length = s.operandBytes s.nextOpcode := by
  rw [instrBytes_eq]
  refine ⟨_, rfl, ?_⟩
  rw [← State.nextOpcode]
  split
  case isTrue hjsl => rw [hjsl]; rfl
  case isFalse => rw [List.length_map, List.length_range]

/-- The decoder never runs out of fetched bytes: an implemented opcode byte gives an instruction. -/
theorem exists_decode_instrBytes {s : State} (h : opcodeFormat s.nextOpcode ≠ none) :
    ∃ i, decode s.flags.m s.flags.xf s.instrBytes = .instr i [] := by
  obtain ⟨operands, hbytes, hlen⟩ := instrBytes_eq_cons s
  obtain ⟨fmt, hfmt⟩ := Option.ne_none_iff_exists'.mp h
  rw [State.operandBytes, hfmt] at hlen
  obtain ⟨i, hbuild⟩ := exists_build_of_length hlen
  exact ⟨i, by simp only [hbytes, decode, hfmt, hbuild]⟩

theorem runNext_of_decode {s : State} {i : Instr} {rest : List Byte}
    (h : decode s.flags.m s.flags.xf s.instrBytes = .instr i rest) : runNext s = exec i s := by
  simp only [runNext, h]

theorem runNext_of_unimplemented {s : State} (h : opcodeFormat s.nextOpcode = none) :
    runNext s = failWith raiseUnimplemented s := by
  obtain ⟨operands, hbytes, -⟩ := instrBytes_eq_cons s
  have hdecode := (decode_eq_unimplemented_iff s.flags.m s.flags.xf _ operands).mpr h
  simp only [runNext, hbytes, hdecode]

/-! ### The branches of R300 -/

theorem step_of_fault {s : State} {r : FaultRecord} (h : s.fault = some r) :
    step s = .fault (.unimplementedOpcode r s.beginStep) := by
  simp only [step, h]

theorem step_of_unlatched {s : State} (hf : s.fault = none) (hk : s.ilatch = none) :
    step s = runNext s.beginStep := by
  simp only [step, hf, hk]

/-- The error that the next opcode fetch raises if the byte is unimplemented (R290). -/
def State.nextError (s : State) : FaultRecord := { pc := s.fetchAddr, opcode := s.nextOpcode }

/-- The state that the step leaves which raises it. -/
def State.afterUnimplemented (s : State) : State :=
  { s.beginStep.afterCalls 1 [s.readCall 0 s.fetchAddr] with fault := some s.nextError }

theorem step_of_unimplemented {s : State} (hf : s.fault = none) (hk : s.ilatch = none)
    (hop : opcodeFormat s.nextOpcode = none) :
    step s = .fault (.unimplementedOpcode s.nextError s.afterUnimplemented) := by
  have hop' : opcodeFormat s.beginStep.nextOpcode = none := hop
  rw [step_of_unlatched hf hk, runNext_of_unimplemented hop', failWith, raiseUnimplemented_run]
  rfl

/-- What a step can do (R300): return the recorded fault, service the latched event, run an instruction, or
raise the fault of an unimplemented opcode. -/
inductive StepCase (s : State) : Host.Outcome State Fault Refusal → Prop where
  | recorded {r : FaultRecord} (hf : s.fault = some r) :
    StepCase s (.fault (.unimplementedOpcode r s.beginStep))
  | latched {k : Interrupt} (hf : s.fault = none) (hk : s.ilatch = some k) :
    StepCase s (.next (serviceInterrupt k s.beginStep).2)
  | instruction {i : Instr} {t : State} (hf : s.fault = none) (hk : s.ilatch = none)
    (hop : opcodeFormat s.nextOpcode ≠ none) (ht : Footprint i s.beginStep t) : StepCase s (.next t)
  | unimplemented (hf : s.fault = none) (hk : s.ilatch = none) (hop : opcodeFormat s.nextOpcode = none) :
    StepCase s (.fault (.unimplementedOpcode s.nextError s.afterUnimplemented))

theorem step_case (s : State) : StepCase s (step s) := by
  cases hf : s.fault with
  | some r =>
    rw [step_of_fault hf]
    exact .recorded hf
  | none =>
    cases hk : s.ilatch with
    | some k =>
      rw [step_of_latched hf hk]
      exact .latched hf hk
    | none =>
      by_cases hop : opcodeFormat s.nextOpcode = none
      · rw [step_of_unimplemented hf hk hop]
        exact .unimplemented hf hk hop
      · obtain ⟨i, hi⟩ := exists_decode_instrBytes (s := s.beginStep) hop
        obtain ⟨t, ht, hfoot⟩ := hasFootprint i s.beginStep
        rw [step_of_unlatched hf hk, runNext_of_decode hi, ht]
        exact .instruction hf hk hop hfoot

/-! ### The service of a latched event -/

theorem serviceInterrupt_fault (k : Interrupt) (s : State) :
    (serviceInterrupt k s.beginStep).2.fault = s.fault := by
  cases k with
  | reset => rw [serviceInterrupt_reset, resetSequence_run]; rfl
  | nmi | irq => rw [serviceInterrupt_run _ (by decide)]; rfl

theorem two_le_serviceInterrupt_log (k : Interrupt) (s : State) :
    2 ≤ (serviceInterrupt k s.beginStep).2.log.length := by
  cases k with
  | reset => rw [serviceInterrupt_reset, resetSequence_run]; exact (by decide : 2 ≤ 7)
  | nmi | irq =>
    rw [serviceInterrupt_run _ (by decide)]
    simp [State.entered]

theorem State.Inv.accepted {s : State} (h : s.Inv) (l : InterruptLine) : (s.accepted l).Inv :=
  ⟨h.mem_wf, h.emulation_widths, h.emulation_stack, h.index_high⟩

theorem serviceInterrupt_inv {s : State} (h : s.Inv) (k : Interrupt) :
    (serviceInterrupt k s.beginStep).2.Inv := by
  cases k with
  | reset =>
    rw [serviceInterrupt_reset, resetSequence_run]
    exact ⟨h.mem_wf, fun _ => ⟨rfl, rfl⟩, fun _ => highByte_joinBytes _ _,
      fun _ => ⟨highByte_joinBytes _ _, highByte_joinBytes _ _⟩⟩
  | nmi | irq =>
    rw [serviceInterrupt_run _ (by decide)]
    exact entered_inv (h.accepted _) _ _ _ _

/-! ### The rules about steps -/

/-- Settles O15: every branch of the step keeps the invariant, the instructions by their frames. -/
theorem stepKeepsInv : Obligations.StepKeepsInv := by
  intro s t h hleaves
  have hbegin : s.beginStep.Inv := ⟨h.mem_wf, h.emulation_widths, h.emulation_stack, h.index_high⟩
  have hcase := step_case s
  obtain hnext | ⟨error, herror⟩ := hleaves
  · rw [hnext] at hcase
    cases hcase with
    | latched => exact serviceInterrupt_inv h _
    | instruction _ _ _ hfoot => exact hfoot.inv hbegin
  · rw [herror] at hcase
    cases hcase with
    | recorded => exact hbegin
    | unimplemented => exact ⟨h.mem_wf, h.emulation_widths, h.emulation_stack, h.index_high⟩

theorem Footprint.fault_eq {i : Instr} {s t : State} (h : Footprint i s t) : t.fault = s.fault := by
  obtain ⟨cs, -, ht⟩ := h.calls
  rw [ht]
  rfl

theorem Footprint.log_length {i : Instr} {s t : State} (h : Footprint i s t) :
    t.log.length = s.log.length + busCalls s i := by
  obtain ⟨cs, hcs, ht⟩ := h.calls
  have hlog : t.log = s.log ++ cs := congrArg State.log ht
  rw [hlog, List.length_append, hcs]

/-- Settles O9: the two branches that return the error leave a state that records it. -/
theorem onlyRecordedFaultStops : Obligations.OnlyRecordedFaultStops := by
  intro s
  rw [← State.nextOpcode]
  have hcase := step_case s
  generalize step s = o at hcase
  cases hcase with
  | recorded hf => exact ⟨hf, by simp [hf]⟩
  | latched hf hk => exact ⟨(serviceInterrupt_fault _ s).trans hf, by simp [hf, hk]⟩
  | instruction hf hk hop hfoot => exact ⟨hfoot.fault_eq.trans hf, by simp [hf, hop]⟩
  | unimplemented hf hk hop => exact ⟨rfl, by simp [hk, hop]⟩

/-- No row of R338 is below two. -/
theorem two_le_busCalls (s : State) (i : Instr) : 2 ≤ busCalls s i := by
  have he : s.costE ≤ 1 := by unfold State.costE; split <;> decide
  cases i <;> simp only [busCalls, State.branchCalls] <;> omega

/-- Settles O10: the log of the step holds the calls of its branch alone, since `beginStep` empties it. -/
theorem stepBusCalls : Obligations.StepBusCalls := by
  intro s t hleaves
  have hcase := step_case s
  obtain hnext | ⟨error, herror⟩ := hleaves
  · rw [hnext] at hcase
    cases hcase with
    | @latched k hf =>
      have htf := (serviceInterrupt_fault k s).trans hf
      simpa [hf, htf] using two_le_serviceInterrupt_log k s
    | instruction hf _ _ hfoot =>
      have htf := hfoot.fault_eq.trans hf
      simpa [hf, htf, hfoot.log_length] using two_le_busCalls _ _
  · rw [herror] at hcase
    cases hcase with
    | recorded hf => simp [hf]
    | unimplemented hf => simp [hf, State.afterUnimplemented]

/-- Settles O5: the fetched bytes do not depend on the cycle log. -/
theorem stepRunsDecoded : Obligations.StepRunsDecoded := by
  intro s i rest hf hk hdecode
  rw [step_of_unlatched hf hk]
  exact runNext_of_decode (by rw [instrBytes_beginStep]; exact hdecode)

/-- Settles O7: the branch of R300 step 4, and the run of `raiseUnimplemented`. -/
theorem unimplementedOpcodeRecorded : Obligations.UnimplementedOpcodeRecorded :=
  fun _ hf hk hop => step_of_unimplemented hf hk hop

/-- Settles O8: the branch of R300 step 1. -/
theorem recordedFaultIsTerminal : Obligations.RecordedFaultIsTerminal := fun _ _ h => step_of_fault h

/-! ### Over a Bus that answers from its store -/

/-- The operand bytes that stand in the store. -/
def State.storedOperands (s : State) (n : Nat) : List Byte :=
  (List.range n).map fun k => s.mem.read (s.codeAddr (1 + k))

theorem storedBytes_eq_cons (s : State) : s.storedBytes = s.mem.read s.fetchAddr :: s.storedOperands 3 := by
  have haddr : s.codeAddr 0 = s.fetchAddr := by simp [State.codeAddr, State.fetchAddr]
  rw [← haddr]
  rfl

/-- The fetches return the stored bytes, unless JSL pushes onto its own bank byte (R240). -/
theorem instrBytes_quiet {s : State} (hq : s.Quiet) (hwf : s.mem.wf = true)
    (hjsl : s.mem.read s.fetchAddr = 0x22 → pushAddr false s.regs.s 0 ≠ s.codeAddr 3) :
    s.instrBytes = s.mem.read s.fetchAddr :: s.storedOperands (s.operandBytes (s.mem.read s.fetchAddr)) := by
  simp only [instrBytes_eq, byteAt_quiet s hq, byteIn_quiet s hq]
  congr 1
  split
  case isTrue hop =>
    have hne : s.codeAddr 3 ≠ bankAddr 0x00 s.regs.s := (hjsl hop).symm
    rw [read_write_other _ hwf hne, hop]
    rfl
  case isFalse => rfl

/-- A list that begins with the first `n` stored operand bytes, `n` at most three. -/
theorem storedOperands_of_append {s : State} {operands rest : List Byte}
    (h : s.storedOperands 3 = operands ++ rest) : operands = s.storedOperands operands.length := by
  have hlen : operands.length ≤ 3 := by
    have := congrArg List.length h
    simp [State.storedOperands] at this
    omega
  calc operands = (s.storedOperands 3).take operands.length := by rw [h, List.take_left]
    _ = s.storedOperands operands.length := by
      rw [State.storedOperands, ← List.map_take, List.take_range, Nat.min_eq_left hlen, State.storedOperands]

/-- Settles O6: the bytes that the decoder read are a prefix of the stored ones, and those the fetches return
are that prefix. -/
theorem stepRunsStored : Obligations.StepRunsStored := by
  intro s i rest hq hwf hf hk hdecode hjsl
  obtain ⟨op, fmt, operands, hbytes, hfmt, hspells, hlen⟩ := (decode_eq_instr_iff _ _ _ _ _).mp hdecode
  rw [storedBytes_eq_cons, List.cons.injEq] at hbytes
  obtain ⟨rfl, hoperands⟩ := hbytes
  have hpush : s.mem.read s.fetchAddr = 0x22 → pushAddr false s.regs.s 0 ≠ s.codeAddr 3 := by
    intro hop
    rw [hop] at hfmt
    cases hfmt
    obtain ⟨a, rfl, -⟩ := hspells
    exact hjsl ⟨a, rfl⟩
  have hcount : s.operandBytes (s.mem.read s.fetchAddr) = operands.length := by
    rw [State.operandBytes, hfmt, hlen]
    rfl
  refine stepRunsDecoded s i [] hf hk ((decode_eq_instr_iff _ _ _ _ _).mpr
    ⟨s.mem.read s.fetchAddr, fmt, operands, ?_, hfmt, hspells, hlen⟩)
  rw [instrBytes_quiet hq hwf hpush, hcount, ← storedOperands_of_append hoperands, List.append_nil]

/-! ### Power-on (10_state.md R50, R52; 70_reset_and_hazards.md R333) -/

theorem powerOn_inv (p : PowerOn) {mem : Memory} (env : List BusEvent) (hmem : mem.wf = true) :
    (State.powerOn p mem env).Inv where
  mem_wf := hmem
  emulation_widths _ := ⟨rfl, rfl⟩
  emulation_stack _ := highByte_joinBytes 0x01 p.sl
  index_high _ := ⟨highByte_zeroExt p.xl, highByte_zeroExt p.yl⟩

/-- Settles O16: the reset of the interface is power-on over the empty store, with every open value 0. -/
theorem powerOnInv : Obligations.PowerOnInv :=
  ⟨fun p _ env hmem => powerOn_inv p env hmem, rfl, powerOn_inv PowerOn.zero [] wf_nil⟩

/-- Settles O14: the first step is the reset sequence; over a Bus that only answers from its store no line is
up at its poll. -/
theorem powerOnFirstStep : Obligations.PowerOnFirstStep := by
  intro p mem
  refine ⟨_, resetSequence_holds (State.powerOn p mem []) rfl rfl, ?_⟩
  refine ⟨rfl, rfl, ?stack, rfl, rfl, rfl, ?x, ?y, rfl, rfl, rfl, rfl, rfl⟩
  case stack => exact congrArg (fun sl => joinBytes 0x01 (sl - 3)) (lowByte_joinBytes 0x01 p.sl)
  case x => exact congrArg (joinBytes 0x00) (lowByte_zeroExt p.xl)
  case y => exact congrArg (joinBytes 0x00) (lowByte_zeroExt p.yl)

end Sys2Proof.Machine
end

section
/-! PROOFS. State and arithmetic: the store (20_memory.md R61), the flag byte (10_state.md R33 to R36), the
registers of the width in force (R22 to R24), and the carry and overflow law (41_binary_read.md R150). -/

namespace Sys2Proof.Machine

open Sys2Proof

/-! ### The store (20_memory.md R61) -/

theorem readKey_head (k : Nat) (v : Byte) (rest : Memory) : Memory.readKey k ((k, v) :: rest) = v := by
  simp [Memory.readKey]

theorem readKey_tail {k j : Nat} (h : k ≠ j) (v : Byte) (rest : Memory) :
    Memory.readKey j ((k, v) :: rest) = Memory.readKey j rest := by
  simp [Memory.readKey, h]

/-- The first key of a canonical store is read as a byte other than the missing one. -/
theorem readKey_head_ne_missing {lo k : Nat} {v : Byte} {rest : Memory}
    (hw : Memory.wfFrom lo ((k, v) :: rest) = true) :
    Memory.readKey k ((k, v) :: rest) ≠ missingByte := by
  obtain ⟨-, -, hv, -⟩ := wfFrom_cons.mp hw
  rwa [readKey_head]

/-- The first keys of two canonical stores that answer every read alike are the same: neither store reads
anything below its first key. -/
theorem head_key_le {lo k k' : Nat} {v v' : Byte} {m n : Memory}
    (hm : Memory.wfFrom lo ((k, v) :: m) = true) (hn : Memory.wfFrom lo ((k', v') :: n) = true)
    (h : ∀ j < 2 ^ 24, Memory.readKey j ((k, v) :: m) = Memory.readKey j ((k', v') :: n)) : k' ≤ k := by
  by_contra hlt
  obtain ⟨-, hk, -⟩ := wfFrom_cons.mp hm
  obtain ⟨-, hn'⟩ := wfFrom_cons.mp hn
  refine readKey_head_ne_missing hm ?_
  rw [h k hk]
  exact readKey_below (lo := k') (by omega) (wfFrom_cons.mpr ⟨le_rfl, hn'⟩)

theorem eq_of_readKey_eq {lo : Nat} {m n : Memory} (hm : Memory.wfFrom lo m = true)
    (hn : Memory.wfFrom lo n = true)
    (h : ∀ j < 2 ^ 24, Memory.readKey j m = Memory.readKey j n) : m = n := by
  induction m generalizing lo n with
  | nil =>
    cases n with
    | nil => rfl
    | cons c n =>
      obtain ⟨-, hk, -⟩ := wfFrom_cons.mp hn
      exact absurd (h c.1 hk).symm (readKey_head_ne_missing hn)
  | cons b m ih =>
    obtain ⟨k, v⟩ := b
    obtain ⟨-, hk, -, hm'⟩ := wfFrom_cons.mp hm
    cases n with
    | nil => exact absurd (h k hk) (readKey_head_ne_missing hm)
    | cons c n =>
      obtain ⟨k', v'⟩ := c
      obtain ⟨-, -, -, hn'⟩ := wfFrom_cons.mp hn
      obtain rfl : k = k' :=
        le_antisymm (head_key_le hn hm fun j hj => (h j hj).symm) (head_key_le hm hn h)
      obtain rfl : v = v' := by simpa only [readKey_head] using h k hk
      rw [ih hm' hn' fun j hj => ?_]
      obtain hjk | hjk := eq_or_ne k j
      · rw [readKey_below (by omega) hm', readKey_below (by omega) hn']
      · simpa only [readKey_tail hjk] using h j hj

/-- Settles O17: a canonical store lists the keys that do not read as missing, in order. -/
theorem fixtureMemory : Obligations.FixtureMemory := by
  refine ⟨fun _ => rfl, fun mem hw a b v => ⟨wf_write mem a v hw, read_write mem hw a b v⟩, ?_⟩
  intro m n hm hn h
  refine eq_of_readKey_eq hm hn fun j hj => ?_
  have hj' : (BitVec.ofNat 24 j).toNat = j := by rw [BitVec.toNat_ofNat, Nat.mod_eq_of_lt hj]
  simpa only [Memory.read, hj'] using h (BitVec.ofNat 24 j)

/-! ### The flag byte (10_state.md R33 to R36) -/

/-- The bits of a flag byte that stand for a held flag (R35). -/
theorem flagsToByte_flagsFromByte (b : Byte) (brk : Bool) (f : Flags) :
    flagsToByte brk (flagsFromByte b f) &&& (if f.e then 0xCF else 0xFF) =
      b &&& (if f.e then 0xCF else 0xFF) := by
  apply BitVec.eq_of_getLsbD_eq
  intro i hi
  rw [BitVec.getLsbD_and, BitVec.getLsbD_and, getLsbD_flagsToByte]
  cases he : f.e <;> interval_cases i <;> simp [flagsFromByte, he]

/-- Settles O18: the layout is `getLsbD_flagsToByte`, and loading a byte is `flagsFromByte`. -/
theorem flagByte : Obligations.FlagByte := by
  refine ⟨fun f b k => ?layout, fun s b k => ?load⟩
  case layout =>
    rw [getLsbD_flagsToByte]
    match k with
    | 0 | 1 | 2 | 3 | 4 | 5 | 6 | 7 => rfl
    | k + 8 => rfl
  case load =>
    intro t mask
    have hflags : t.flags = flagsFromByte b s.flags := State.loadFlags_flags s b
    have hregs := State.loadFlags_regs s b
    refine ⟨hflags ▸ flagsToByte_flagsFromByte b k s.flags, hflags ▸ rfl, fun he => ?_, ?_, ?_⟩
    · simp [hflags, flagsFromByte, he]
    · rw [hflags, hregs]
    · rw [hflags, hregs]

/-! ### Registers of the width in force (10_state.md R22 to R24) -/

theorem trunc_ofFlag_eq_indexFit (narrow : Bool) (v : Word) :
    (Width.ofFlag narrow).trunc v = indexFit narrow v := by
  cases narrow <;> simp [indexFit, zeroExt_eq_joinBytes]

/-- Settles O19: an access at the width of a flag is one of two cases of that flag. -/
theorem registerWidths : Obligations.RegisterWidths := by
  intro s v
  refine ⟨trunc_ofFlag_eq_indexFit s.flags.m s.regs.a, ?setA, ?setX, ?setY, rfl⟩
  case setA =>
    rw [setA_eq, State.widthA]
    cases s.flags.m <;> rfl
  case setX => rw [State.setX, State.widthX, trunc_ofFlag_eq_indexFit]
  case setY => rw [State.setY, State.widthX, trunc_ofFlag_eq_indexFit]

/-! ### The carry and overflow law (41_binary_read.md R150) -/

/-- The sign bit of a `w`-bit value as a comparison. -/
theorem getLsbD_sign_eq {w : Width} {v : Word} (hv : v.toNat < 2 ^ w.bits) :
    v.getLsbD (w.bits - 1) = decide (2 ^ (w.bits - 1) ≤ v.toNat) := by
  rw [BitVec.getLsbD, Nat.testBit_eq_decide_div_mod_eq, decide_eq_decide]
  cases w <;> simp only [bits_w8, bits_w16] at hv ⊢ <;> omega

/-- Settles O21: operands of one sign whose sum has the other sign are those whose signed sum leaves the
range. -/
theorem carryOverflowLaw : Obligations.CarryOverflowLaw := by
  intro w a m c ha hm r signed t
  have hwrap : (w.wrap r).toNat < 2 ^ w.bits := by
    rw [toNat_wrap]
    exact Nat.mod_lt _ (Nat.two_pow_pos _)
  rw [binarySum_eq (n := r) rfl]
  refine ⟨rfl, decide_eq_true_iff, ?overflow⟩
  case overflow =>
    have hc : c.toNat ≤ 1 := c.toNat_le
    simp only [getLsbD_sign_eq ha, getLsbD_sign_eq hm, getLsbD_sign_eq hwrap, toNat_wrap,
      decide_eq_true_iff, decide_eq_decide, ne_eq, t, signed, r]
    cases w <;> simp only [bits_w8, bits_w16] at ha hm ⊢ <;> split_ifs <;> omega

end Sys2Proof.Machine
end

section
/-! PROOFS. Decimal arithmetic (41_binary_read.md R151, R152): both algorithms add place by place, the adjustment
of a place settles its digit and its carry, and a decimal difference is the decimal sum with the nines'
complement. -/

namespace Sys2Proof.Machine

open Sys2Proof

/-! ### The algorithms as one addition place by place -/

/-- The adjustment of a place of weight `b` in R151. -/
def settleUp (b r : Int) : Int := if r > 10 * b - 1 then r + 6 * b else r

/-- The adjustment of a place of weight `b` in R152. -/
def settleDown (b r : Int) : Int := if r ≤ 16 * b - 1 then r - 6 * b else r

/-- A place of weight `16 ^ n` on top of what the places below it give. -/
def placeStep (settle : Int → Int → Int) (a m : Int) (n : Nat) (below : Int) : Int :=
  settle (16 ^ n) (maskInt a (4 * n) 4 + maskInt m (4 * n) 4 + carryInt (below > 16 ^ n - 1) (4 * n) +
    maskInt below 0 (4 * n))

/-- What the lowest `n` places give, the carry out at bit `4 * n`. -/
def placesSum (settle : Int → Int → Int) (a m : Int) (c : Bool) : Nat → Int
  | 0 => c.toNat
  | n + 1 => placeStep settle a m n (placesSum settle a m c n)

/-- The value and the carry of a sum are those of all places of the width. -/
def PlacesResult (settle : Int → Int → Int) (w : Width) (a m : Word) (c : Bool) (t : Sum) : Prop :=
  let r := placesSum settle a.toNat m.toNat c (w.bits / 4)
  t.value = w.ofInt r ∧ t.c = decide (r > 2 ^ w.bits - 1)

theorem placesSum_one (settle : Int → Int → Int) (a m : Int) (c : Bool) :
    placesSum settle a m c 1 = settle 1 (maskInt a 0 4 + maskInt m 0 4 + carryInt c 0) := by
  cases c <;> simp [placesSum, placeStep, carryInt, maskInt]

theorem placesSum_two (settle : Int → Int → Int) (a m : Int) (c : Bool) :
    placesSum settle a m c 2 =
      placeStep settle a m 1 (settle 1 (maskInt a 0 4 + maskInt m 0 4 + carryInt c 0)) := by
  rw [placesSum, placesSum_one]

theorem placesSum_four (settle : Int → Int → Int) (a m : Int) (c : Bool) :
    placesSum settle a m c 4 = placeStep settle a m 3 (placeStep settle a m 2 (placesSum settle a m c 2)) := by
  rw [placesSum, placesSum]

theorem adcSum_places (w : Width) (a m : Word) (c : Bool) :
    PlacesResult settleUp w a m c (adcSum true w a m c) := by
  cases w with
  | w8 => rw [PlacesResult, show Width.w8.bits / 4 = 2 from rfl, placesSum_two]; exact ⟨rfl, rfl⟩
  | w16 => rw [PlacesResult, show Width.w16.bits / 4 = 4 from rfl, placesSum_four, placesSum_two]; exact ⟨rfl, rfl⟩

theorem sbcSum_places (w : Width) (a m : Word) (c : Bool) :
    PlacesResult settleDown w a (w.trunc (~~~m)) c (sbcSum true w a m c) := by
  cases w with
  | w8 => rw [PlacesResult, show Width.w8.bits / 4 = 2 from rfl, placesSum_two]; exact ⟨rfl, rfl⟩
  | w16 => rw [PlacesResult, show Width.w16.bits / 4 = 4 from rfl, placesSum_four, placesSum_two]; exact ⟨rfl, rfl⟩

/-! ### A place settles its digit and its carry -/

/-- The adjustment leaves the decimal digit and the carry of a place where the digits `x` and `y` and a carry
meet, the second operand written with `off` more in each digit. -/
def Settles (settle : Int → Int → Int) (off : Nat) : Prop :=
  ∀ (b low : Int) (x y : Nat) (c : Bool), 0 ≤ low → low < b → x < 10 → y < 10 →
    ∃ (d : Nat) (c' : Bool), d < 10 ∧ d + 10 * c'.toNat = x + y + c.toNat ∧
      settle b (x * b + (y + off : Nat) * b + c.toNat * b + low) = d * b + c'.toNat * (16 * b) + low

/-- The digit and the carry of a place. -/
theorem digit_and_carry {x y : Nat} (c : Bool) (hx : x < 10) (hy : y < 10) :
    ∃ (d : Nat) (c' : Bool), d < 10 ∧ d + 10 * c'.toNat = x + y + c.toNat := by
  have hc : c.toNat ≤ 1 := c.toNat_le
  obtain h | h := Nat.lt_or_ge (x + y + c.toNat) 10
  · exact ⟨x + y + c.toNat, false, h, rfl⟩
  · exact ⟨x + y + c.toNat - 10, true, by omega, by simp; omega⟩

theorem settles_settleUp : Settles settleUp 0 := by
  intro b low x y c h0 hlow hx hy
  obtain ⟨d, c', hd, hsum⟩ := digit_and_carry c hx hy
  refine ⟨d, c', hd, hsum, ?_⟩
  have hr : x * b + (y + 0 : Nat) * b + c.toNat * b + low = (d + 10 * c'.toNat : Nat) * b + low := by
    rw [hsum]; push_cast; ring
  rw [hr, settleUp]
  cases c' with
  | false => rw [if_neg (by simp; nlinarith)]; simp
  | true => rw [if_pos (by simp; nlinarith)]; simp; ring

theorem settles_settleDown : Settles settleDown 6 := by
  intro b low x y c h0 hlow hx hy
  obtain ⟨d, c', hd, hsum⟩ := digit_and_carry c hx hy
  refine ⟨d, c', hd, hsum, ?_⟩
  have hr : x * b + (y + 6 : Nat) * b + c.toNat * b + low = (d + 10 * c'.toNat + 6 : Nat) * b + low := by
    rw [hsum]; push_cast; ring
  rw [hr, settleDown]
  cases c' with
  | false => rw [if_pos (by simp; nlinarith)]; simp; ring
  | true => rw [if_neg (by simp; nlinarith)]; simp; ring

/-! ### Numbers written with decimal digits -/

/-- `v` written with `n` hexadecimal digits, all decimal, reads as the decimal number `t`. -/
inductive Decimal : Nat → Nat → Nat → Prop
  | zero : Decimal 0 0 0
  | place {n v t d : Nat} : Decimal n v t → d < 10 → Decimal (n + 1) (d * 16 ^ n + v) (d * 10 ^ n + t)

theorem Decimal.lt {n v t : Nat} (h : Decimal n v t) : v < 16 ^ n := by
  induction h with
  | zero => decide
  | place _ hd ih => rw [pow_succ]; nlinarith

/-- A place on top of the settled places below it is settled. -/
theorem placeStep_settled {settle : Int → Int → Int} {off n v t x y : Nat} {a m : Int} {c : Bool}
    (hs : Settles settle off) (hv : Decimal n v t) (hx : x < 10) (hy : y < 10)
    (ha : maskInt a (4 * n) 4 = x * 16 ^ n) (hm : maskInt m (4 * n) 4 = (y + off : Nat) * 16 ^ n) :
    ∃ (d : Nat) (c' : Bool), d < 10 ∧ d + 10 * c'.toNat = x + y + c.toNat ∧
      placeStep settle a m n (v + c.toNat * 16 ^ n) =
        (d * 16 ^ n + v : Nat) + c'.toNat * 16 ^ (n + 1) := by
  have hlt : (v : Int) < 16 ^ n := by exact_mod_cast hv.lt
  have hcarry : decide ((v : Int) + c.toNat * 16 ^ n > 16 ^ n - 1) = c := by
    cases c with
    | false => simp; omega
    | true => simp
  have hpow : (2 : Int) ^ (4 * n) = 16 ^ n := by rw [pow_mul]; norm_num
  have hlow : maskInt ((v : Int) + c.toNat * 16 ^ n) 0 (4 * n) = v := by
    rw [maskInt, hpow, pow_zero, Int.ediv_one, mul_one, Int.add_mul_emod_self_right,
      Int.emod_eq_of_lt (by omega) hlt]
  obtain ⟨d, c', hd, hsum, hr⟩ := hs (16 ^ n) v x y c (by omega) hlt hx hy
  refine ⟨d, c', hd, hsum, ?_⟩
  rw [placeStep, hcarry, hlow, ha, hm, carryInt, hpow, hr]
  push_cast
  ring

/-- The first `n` digits of a decimal number. -/
def decimalUpTo (x : Nat → Nat) : Nat → Nat
  | 0 => 0
  | n + 1 => x n * 10 ^ n + decimalUpTo x n

/-- The algorithm adds decimal numbers. -/
theorem placesSum_settled {settle : Int → Int → Int} {off : Nat} {x y : Nat → Nat} {a m : Int} (c : Bool)
    (hs : Settles settle off) (n : Nat)
    (ha : ∀ k < n, x k < 10 ∧ maskInt a (4 * k) 4 = x k * 16 ^ k)
    (hm : ∀ k < n, y k < 10 ∧ maskInt m (4 * k) 4 = (y k + off : Nat) * 16 ^ k) :
    ∃ (v t : Nat) (c' : Bool), Decimal n v t ∧
      t + c'.toNat * 10 ^ n = decimalUpTo x n + decimalUpTo y n + c.toNat ∧
      placesSum settle a m c n = v + c'.toNat * 16 ^ n := by
  induction n with
  | zero => exact ⟨0, 0, c, .zero, by simp [decimalUpTo], by simp [placesSum]⟩
  | succ n ih =>
    obtain ⟨v, t, c', hv, ht, hr⟩ := ih (fun k hk => ha k (by omega)) (fun k hk => hm k (by omega))
    obtain ⟨hx, hax⟩ := ha n (by omega)
    obtain ⟨hy, hmy⟩ := hm n (by omega)
    obtain ⟨d, c'', hd, hsum, hstep⟩ := placeStep_settled (c := c') hs hv hx hy hax hmy
    refine ⟨_, _, c'', hv.place hd, ?_, by rw [placesSum, hr, hstep]⟩
    calc d * 10 ^ n + t + c''.toNat * 10 ^ (n + 1) = (d + 10 * c''.toNat) * 10 ^ n + t := by ring
      _ = (x n + y n) * 10 ^ n + (t + c'.toNat * 10 ^ n) := by rw [hsum]; ring
      _ = _ := by rw [ht, decimalUpTo, decimalUpTo]; ring

/-! ### Words -/

theorem maskInt_digit (v : Word) (k : Nat) : maskInt v.toNat (4 * k) 4 = bcdDigit v k * 16 ^ k := by
  have hpow : (2 : Int) ^ (4 * k) = 16 ^ k := by rw [pow_mul]; norm_num
  rw [maskInt, hpow, bcdDigit]
  push_cast
  rfl

/-- The complement at width `w` holds the nines' complement of each digit, six more than it. -/
theorem bcdDigit_trunc_not {w : Width} {m : Word} (hm : ValidBcd m) (hlt : m.toNat < 2 ^ w.bits) {k : Nat}
    (hk : k < w.bits / 4) : bcdDigit (w.trunc (~~~m)) k = 9 - bcdDigit m k + 6 := by
  have hd := hm k
  rw [bcdDigit] at hd ⊢
  rw [toNat_trunc_not w m ((trunc_eq_self_iff w m).mpr hlt), bcdDigit]
  cases w <;> simp only [bits_w8, bits_w16] at hlt hk ⊢ <;> interval_cases k <;> omega

theorem decimalUpTo_bcdDigit {w : Width} {v : Word} (hlt : v.toNat < 2 ^ w.bits) :
    decimalUpTo (bcdDigit v) (w.bits / 4) = bcdValue v := by
  cases w with
  | w8 =>
    simp only [bits_w8] at hlt
    simp only [show Width.w8.bits / 4 = 2 from rfl, decimalUpTo, bcdValue, bcdDigit]
    omega
  | w16 =>
    simp only [show Width.w16.bits / 4 = 4 from rfl, decimalUpTo, bcdValue]
    omega

/-- The nines' complement of a decimal number. -/
theorem decimalUpTo_complement (x : Nat → Nat) (n : Nat) (hx : ∀ k < n, x k < 10) :
    decimalUpTo (fun k => 9 - x k) n + decimalUpTo x n + 1 = 10 ^ n := by
  induction n with
  | zero => rfl
  | succ n ih =>
    have hn := hx n (by omega)
    have hsum := ih fun k hk => hx k (by omega)
    obtain ⟨j, hj⟩ := Nat.exists_eq_add_of_le (show x n ≤ 9 by omega)
    simp only [decimalUpTo, show 9 - x n = j by omega]
    calc j * 10 ^ n + decimalUpTo (fun k => 9 - x k) n + (x n * 10 ^ n + decimalUpTo x n) + 1
        = (x n + j) * 10 ^ n + (decimalUpTo (fun k => 9 - x k) n + decimalUpTo x n + 1) := by ring
      _ = 10 ^ (n + 1) := by rw [hsum, ← hj]; ring

/-- The digits of a settled sum are the digits of the word it is stored in. -/
theorem Decimal.word {w : Width} {v t : Nat} (h : Decimal (w.bits / 4) v t) :
    ValidBcd (w.wrap v) ∧ bcdValue (w.wrap v) = t := by
  simp only [ValidBcd, bcdValue, bcdDigit, toNat_wrap]
  cases w with
  | w8 =>
    obtain _ | ⟨_ | ⟨⟨⟩, h₀⟩, h₁⟩ := (h : Decimal 2 v t)
    simp only [bits_w8]
    refine ⟨fun k hk => ?_, ?_⟩
    · interval_cases k <;> omega
    · omega
  | w16 =>
    obtain _ | ⟨_ | ⟨_ | ⟨_ | ⟨⟨⟩, h₀⟩, h₁⟩, h₂⟩, h₃⟩ := (h : Decimal 4 v t)
    simp only [bits_w16]
    refine ⟨fun k hk => ?_, ?_⟩
    · interval_cases k <;> omega
    · omega

/-- A decimal algorithm stores the decimal sum of `a` and of the number whose digits are `y`. -/
theorem PlacesResult.decimal {settle : Int → Int → Int} {off : Nat} {w : Width} {a m : Word} {c : Bool}
    {s : Sum} {y : Nat → Nat} (hr : PlacesResult settle w a m c s) (hs : Settles settle off)
    (ha : ValidBcd a) (hlt : a.toNat < 2 ^ w.bits)
    (hm : ∀ k < w.bits / 4, y k < 10 ∧ bcdDigit m k = y k + off) :
    ValidBcd s.value ∧ bcdValue s.value + s.c.toNat * 10 ^ (w.bits / 4) =
      bcdValue a + decimalUpTo y (w.bits / 4) + c.toNat := by
  have hplaces : w.bits / 4 ≤ 4 := by cases w <;> decide
  obtain ⟨v, t, c', hv, ht, hsum⟩ := placesSum_settled c hs (w.bits / 4)
    (fun k hk => ⟨ha k (by omega), maskInt_digit a k⟩)
    (fun k hk => ⟨(hm k hk).1, by rw [maskInt_digit, (hm k hk).2]⟩)
  obtain ⟨hvalue, hcarry⟩ := hr
  have hpow : (16 : Nat) ^ (w.bits / 4) = 2 ^ w.bits := by cases w <;> rfl
  have hvlt : v < 2 ^ w.bits := hpow ▸ hv.lt
  have hcast : (v : Int) + c'.toNat * 16 ^ (w.bits / 4) = (v + c'.toNat * 2 ^ w.bits : Nat) := by
    rw [← hpow]; push_cast; rfl
  rw [hsum, hcast] at hvalue hcarry
  have hc : s.c = c' := by
    rw [hcarry]
    have hbound : ((2 ^ w.bits : Nat) : Int) = 2 ^ w.bits := by push_cast; rfl
    cases c' with
    | false => rw [decide_eq_false_iff_not, ← hbound]; simp only [Bool.toNat_false]; omega
    | true => rw [decide_eq_true_iff, ← hbound]; simp only [Bool.toNat_true]; omega
  have hword : w.wrap (v + c'.toNat * 2 ^ w.bits) = w.wrap v := by
    apply BitVec.eq_of_toNat_eq
    rw [toNat_wrap, toNat_wrap, Nat.add_mul_mod_self_right]
  rw [hvalue, ofInt_natCast, hword, hc, hv.word.2, ht, decimalUpTo_bcdDigit hlt]
  exact ⟨hv.word.1, rfl⟩

/-- Settles O22: subtraction adds the nines' complement. -/
theorem decimalArithmetic : Obligations.DecimalArithmetic := by
  intro w a m c ha hm halt hmlt base sum dif
  have hplaces : w.bits / 4 ≤ 4 := by cases w <;> decide
  have hc : c.toNat ≤ 1 := c.toNat_le
  have hmdigit : ∀ k < w.bits / 4, bcdDigit m k < 10 := fun k hk => hm k (by omega)
  obtain ⟨hsum, hsumval⟩ := (adcSum_places w a m c).decimal settles_settleUp ha halt
    (fun k hk => ⟨hmdigit k hk, rfl⟩)
  obtain ⟨hdif, hdifval⟩ := (sbcSum_places w a m c).decimal settles_settleDown ha halt
    (fun k hk => ⟨by omega, bcdDigit_trunc_not hm hmlt hk⟩)
  have hnines := decimalUpTo_complement (bcdDigit m) (w.bits / 4) hmdigit
  rw [decimalUpTo_bcdDigit hmlt] at hsumval hnines
  refine ⟨hsum, ?_, hdif, ?_⟩
  · simp only [sum, base]
    rw [← hsumval]
    cases (adcSum true w a m c).c <;> simp
  · simp only [dif, base]
    revert hdifval
    cases (sbcSum true w a m c).c <;> simp <;> omega

end Sys2Proof.Machine
end

section
/-! PROOFS. What is pushed comes back: the stack after pushes and as many pulls (20_memory.md R70 to R73), calls and
returns (45_control_stack_system.md R239 to R242), and RTI after an accepted interrupt (60_exceptions.md R306). -/

namespace Sys2Proof.Machine

open Sys2Proof

/-! ### Pulls after pushes -/

theorem stackUp_stackDown {wrap : Bool} {sp : Word} (h : wrap = true → highByte sp = 0x01) :
    stackUp wrap (stackDown wrap sp) = sp := by
  cases wrap with
  | false => simp [stackUp, stackDown]
  | true =>
    have hpage : joinBytes 0x01 (lowByte sp) = sp := by rw [← h rfl, joinBytes_high_low]
    rw [stackUp, stackDown, if_pos rfl, if_pos rfl, ← hpage]
    apply BitVec.eq_of_toNat_eq
    simp only [toNat_joinBytes, toNat_lowByte, BitVec.toNat_add, BitVec.toNat_sub]
    omega

theorem stackUps_stackDowns {wrap : Bool} {sp : Word} (h : wrap = true → highByte sp = 0x01) (n k : Nat) :
    stackUps wrap (stackDowns wrap sp (n + k)) k = stackDowns wrap sp n := by
  induction k generalizing n with
  | zero => rfl
  | succ k ih =>
    rw [stackUps, show n + (k + 1) = n + 1 + k by omega, ih, stackDowns,
      stackUp_stackDown]
    rintro rfl
    exact highByte_stackDowns (h rfl) n

/-- As many pulls as pushes restore S. -/
theorem stackUps_stackDowns_self {wrap : Bool} {sp : Word} (h : wrap = true → highByte sp = 0x01) (n : Nat) :
    stackUps wrap (stackDowns wrap sp n) n = sp := by
  simpa only [Nat.zero_add, stackDowns] using stackUps_stackDowns h 0 n

/-- The pulls after `n` pushes read at the addresses of the pushes, the last one first. -/
theorem pullAddr_stackDowns {wrap : Bool} {sp : Word} (h : wrap = true → highByte sp = 0x01) (j k : Nat) :
    pullAddr wrap (stackDowns wrap sp (j + (k + 1))) k = pushAddr wrap sp j := by
  rw [pullAddr, stackUps_stackDowns h, pushAddr]

/-- Over a Bus that answers from its store, pull number `k` returns the byte that the pushes have `k` bytes
after it. -/
theorem pulledByte_pushed {u : State} {before mem : Memory} {wrap : Bool} {sp : Word} {bytes : List Byte}
    (hq : u.Quiet) (hmem : u.mem = mem) (hp : PushedAt before mem wrap sp bytes)
    (hs : u.regs.s = stackDowns wrap sp bytes.length) (h : wrap = true → highByte sp = 0x01)
    (n : Nat) {j k : Nat} {b : Byte} (hlen : bytes.length = j + (k + 1)) (hb : bytes[j]? = some b) :
    u.pulledByte wrap n k = b := by
  obtain ⟨-, hread, -⟩ := hp
  rw [State.pulledByte, byteAt_quiet u hq, hmem, hs, hlen, pullAddr_stackDowns h, hread j b hb]

theorem pageFixed_of_page {e : Bool} {v : Word} (h : e = true → highByte v = 0x01) : pageFixed e v = v := by
  cases e with
  | false => rfl
  | true => rw [pageFixed, if_pos rfl, ← h rfl, joinBytes_high_low]

/-- Three bytes that go down from low byte 3 or more stay in the page. -/
theorem highByte_sub_three {sp : Word} (h : 3 ≤ (lowByte sp).toNat) : highByte (sp - 3) = highByte sp := by
  have hlt := sp.isLt
  rw [toNat_lowByte] at h
  apply BitVec.eq_of_toNat_eq
  rw [toNat_highByte, toNat_highByte, BitVec.toNat_sub, show (3 : Word).toNat = 3 from rfl]
  omega

/-! ### Calls and returns -/

/-- RTS after JSR: both bytes of the address come back, low byte first. -/
theorem rts_after_jsr {s t u : State} {addr : Word} (hwf : s.mem.wf = true) (hq : u.Quiet)
    (hmem : u.mem = t.mem) (hs : u.regs.s = t.regs.s) (he : u.flags.e = s.flags.e)
    (hpage : s.flags.e = true → highByte s.regs.s = 0x01) (hcall : exec (.jsr addr) s = .next t) :
    ∃ r : State, exec .rts u = .next r ∧
      r.regs.pc = s.regs.pc + 3 ∧ r.regs.s = s.regs.s ∧ r.regs.pbr = u.regs.pbr := by
  obtain ⟨hjsr, hpushed⟩ := jsrResult s addr
  cases hjsr.symm.trans hcall
  have hp := hpushed hwf
  have hlow := pulledByte_pushed hq hmem hp hs hpage 3 (j := 1) (k := 0) rfl rfl
  have hhigh := pulledByte_pushed hq hmem hp hs hpage 3 (j := 0) (k := 1) rfl rfl
  refine ⟨_, (returnResults u).1, ?_, ?_, rfl⟩
  · simp only [he, hlow, hhigh, joinBytes_high_low, BitVec.add_assoc]
    rfl
  · simp only [he, hs]
    exact stackUps_stackDowns_self hpage 2

/-- RTL after JSL: the three bytes come back, PBR last. -/
theorem rtl_after_jsl {s t u : State} {al : Addr} (hwf : s.mem.wf = true) (hq : u.Quiet)
    (hmem : u.mem = t.mem) (hs : u.regs.s = t.regs.s) (he : u.flags.e = s.flags.e)
    (hpage : s.flags.e = true → highByte s.regs.s = 0x01)
    (hroom : s.flags.e = true → 3 ≤ (lowByte s.regs.s).toNat) (hcall : exec (.jsl al) s = .next t) :
    ∃ r : State, exec .rtl u = .next r ∧
      r.regs.pc = s.regs.pc + 4 ∧ r.regs.pbr = s.regs.pbr ∧ r.regs.s = s.regs.s := by
  obtain ⟨hjsl, hpushed⟩ := jslResult s al
  cases hjsl.symm.trans hcall
  have hp := hpushed hwf
  have hsp : u.regs.s = s.regs.s - 3 :=
    hs.trans (pageFixed_of_page fun h => (highByte_sub_three (hroom h)).trans (hpage h))
  have hdowns : u.regs.s = stackDowns false s.regs.s 3 := hsp.trans (stackDowns_false _ 3).symm
  have hlow := pulledByte_pushed hq hmem hp hdowns (by simp) 3 (j := 2) (k := 0) rfl rfl
  have hhigh := pulledByte_pushed hq hmem hp hdowns (by simp) 3 (j := 1) (k := 1) rfl rfl
  have hbank := pulledByte_pushed hq hmem hp hdowns (by simp) 3 (j := 0) (k := 2) rfl rfl
  refine ⟨_, (returnResults u).2, ?_, hbank, ?_⟩
  · simp only [hlow, hhigh, joinBytes_high_low, BitVec.add_assoc]
    rfl
  · simp only [he, hsp, BitVec.sub_add_cancel]
    exact pageFixed_of_page hpage

/-- Settles O57. -/
theorem callsReturn : Obligations.CallsReturn := fun _ _ _ hwf hq hmem hs he hpage =>
  ⟨fun _ hcall => rts_after_jsr hwf hq hmem hs he hpage hcall,
    fun _ hcall hroom => rtl_after_jsl hwf hq hmem hs he hpage hroom hcall⟩

/-! ### RTI after an accepted interrupt (R306) -/

/-- Loading the flag byte of `f` restores its flags, in emulation mode all but M and XF (R33, R35). -/
theorem flagsFromByte_flagsToByte (brk : Bool) {f g : Flags} (he : g.e = f.e) :
    flagsFromByte (flagsToByte brk f) g = if f.e then { f with m := g.m, xf := g.xf } else f := by
  simp only [flagsFromByte, getLsbD_flagsToByte, he]
  obtain ⟨n, v, m, xf, df, i, z, c, e⟩ := f
  cases e <;> rfl

theorem length_exceptionFrame (f : Flags) (pbr : Byte) (pc : Word) (breakFlag : Bool) :
    (exceptionFrame f pbr pc breakFlag).length = if f.e then 3 else 4 := by
  cases h : f.e <;> simp [exceptionFrame, h]

/-- The bytes of a frame come back in order: the flag byte, PC low byte first and, in native mode, PBR. -/
theorem pulledByte_exceptionFrame {u : State} {before mem : Memory} {f : Flags} {pbr : Byte} {pc sp : Word}
    (hq : u.Quiet) (hmem : u.mem = mem) (hp : PushedAt before mem f.e sp (exceptionFrame f pbr pc false))
    (hs : u.regs.s = stackDowns f.e sp (if f.e then 3 else 4)) (hpage : f.e = true → highByte sp = 0x01) :
    u.pulledByte f.e 3 0 = flagsToByte false f ∧ u.pulledByte f.e 3 1 = lowByte pc ∧
      u.pulledByte f.e 3 2 = highByte pc ∧ (f.e = false → u.pulledByte f.e 3 3 = pbr) := by
  have hlen := length_exceptionFrame f pbr pc false
  have pulled := fun {j k b} => pulledByte_pushed hq hmem hp (hlen ▸ hs) hpage 3 (j := j) (k := k) (b := b)
  rw [hlen, exceptionFrame] at pulled
  cases hmode : f.e with
  | true =>
    simp only [hmode] at pulled
    exact ⟨pulled (j := 2) rfl rfl, pulled (j := 1) rfl rfl, pulled (j := 0) rfl rfl, nofun⟩
  | false =>
    simp only [hmode] at pulled
    exact ⟨pulled (j := 3) rfl rfl, pulled (j := 2) rfl rfl, pulled (j := 1) rfl rfl,
      fun _ => pulled (j := 0) rfl rfl⟩

/-- RTI over the memory and S that an entry from `s` left. -/
theorem rti_after_entry {s u : State} {before mem : Memory} (hq : u.Quiet) (he : u.flags.e = s.flags.e)
    (hmem : u.mem = mem)
    (hp : PushedAt before mem s.flags.e s.regs.s (exceptionFrame s.flags s.regs.pbr s.regs.pc false))
    (hs : u.regs.s = stackDowns s.flags.e s.regs.s (if s.flags.e then 3 else 4))
    (hpage : s.flags.e = true → highByte s.regs.s = 0x01) :
    ∃ r : State, exec .rti u = .next r ∧ r.regs.pc = s.regs.pc ∧ r.regs.s = s.regs.s ∧
      r.regs.pbr = (if s.flags.e then u.regs.pbr else s.regs.pbr) ∧
      r.flags = (if s.flags.e then { s.flags with m := u.flags.m, xf := u.flags.xf } else s.flags) := by
  obtain ⟨hflag, hlow, hhigh, hbank⟩ := pulledByte_exceptionFrame hq hmem hp hs hpage
  refine ⟨_, rtiResult u, ?pc, ?s, ?pbr, ?flags⟩
  case pc =>
    rw [he, hhigh, hlow, State.flagsLoaded, joinBytes_high_low]
  case s =>
    rw [he, hs]
    exact stackUps_stackDowns_self hpage _
  case pbr =>
    rw [he]
    exact ite_congr rfl (fun _ => rfl) fun h => hbank (eq_false_of_ne_true h)
  case flags =>
    rw [he, hflag]
    exact flagsFromByte_flagsToByte false he

/-- Settles O58: an accepted NMI or IRQ is an entry, whose frame RTI pulls. -/
theorem rtiRecovers : Obligations.RtiRecovers := by
  intro s t u hwf hf hk hstep hq hmem hs he hpage
  obtain ⟨k, hk, hne⟩ : ∃ k, s.ilatch = some k ∧ k ≠ .reset := by
    obtain hk | hk := hk
    · exact ⟨_, hk, by decide⟩
    · exact ⟨_, hk, by decide⟩
  cases (step_of_latched_interrupt hf hk hne).symm.trans hstep
  refine rti_after_entry hq he hmem (accepted_entered_pushedAt s (s.acknowledge k).line _ _ hwf)
    (hs.trans ?_) hpage
  simp only [State.entered, State.accepted_flags, State.accepted_regs, length_exceptionFrame]

end Sys2Proof.Machine
end

section
/-! PROOFS. The dummy read of the absolute indexed modes (40_addressing_modes.md R115): the calls of a read, a store and
a modify instruction begin with those of the resolver, and the resolver's last call is the dummy read. -/

namespace Sys2Proof.Machine

open Sys2Proof

/-- The mode is absolute indexed: the base `addr` and the index `x` of the state (40_addressing_modes.md R115). -/
def AbsIndexed (s : State) (addr x : Word) (mode : Mode) : Prop :=
  ∀ writeIntent, s.resolverCalls mode writeIntent = s.fetchCalls 3 ++ s.carryCalls 3 addr x writeIntent

theorem absIndexed_abx (s : State) (addr : Word) : AbsIndexed s addr s.regs.x (.abx addr) := fun _ => rfl

theorem absIndexed_aby (s : State) (addr : Word) : AbsIndexed s addr s.regs.y (.aby addr) := fun _ => rfl

/-! ### Before a write -/

/-- The calls of the instruction begin with those of the resolver for a write. -/
def ResolvesToWrite (s t : State) (mode : Mode) : Prop := s.log ++ s.resolverCalls mode true <+: t.log

theorem AppliesStore.resolvesToWrite {w : State → Width} {value : State → Word} {f : Instr × Mode}
    (hf : AppliesStore w value f) (hw : FlagWidth w) (hv : CallsKeep value) {s t : State}
    (hexec : exec f.1 s = .next t) : ResolvesToWrite s t f.2 := by
  cases (hf.storesBy hw hv s).1.symm.trans hexec
  exact ⟨_, List.append_assoc _ _ _⟩

theorem AppliesModify.resolvesToWrite {op : ModifyOp} {f : Instr × Mode}
    {result : Width → Word → Word → Flags → Word × Flags} (hf : AppliesModify op f)
    (hop : ModifierResult op result) {s t : State} (hexec : exec f.1 s = .next t) :
    ResolvesToWrite s t f.2 := by
  cases (hf.modifiesBy hop s).1.symm.trans hexec
  simp only [ResolvesToWrite, State.ranThrough, List.append_assoc]
  exact ⟨_, List.append_assoc _ _ _⟩

/-- A write makes the dummy read whatever the index. -/
theorem ResolvesToWrite.dummyRead {s t : State} {mode : Mode} {addr x : Word}
    (h : ResolvesToWrite s t mode) (hmode : AbsIndexed s addr x mode) :
    s.log ++ s.fetchCalls 3 ++ [s.readCall 3 (s.uncarriedAddr addr x)] <+: t.log := by
  rw [ResolvesToWrite, hmode] at h
  rwa [List.append_assoc]

/-! ### Before a read -/

/-- The operator makes no bus call. -/
def KeepsLog (op : ReadOp) : Prop := ∀ w m t, (op w m t).log = t.log

theorem setANZ_log (s : State) (w : Width) (v : Word) : (s.setANZ w v).log = s.log := by
  rw [State.setANZ, State.setNZ_log, State.setA_log]

theorem setSum_log (s : State) (w : Width) (r : Sum) : (s.setSum w r).log = s.log := setANZ_log s w r.value

/-- A read instruction's calls: the resolver's and those of the operand, which has the width in force. -/
theorem AppliesRead.log {w : State → Width} {op : ReadOp} {f : Instr × Mode} (hf : AppliesRead w op f)
    (hw : FlagWidth w) (hop : KeepsLog op) {s t : State} (hexec : exec f.1 s = .next t) :
    t.log = s.log ++ s.readCalls f.2 (w s) := by
  have hrun := readInstr_run w f.2 op s fun _ _ => hw _ _ rfl
  cases (hf s).symm.trans hexec
  rw [hrun, hop]
  rfl

theorem carryCalls_read (s : State) (base x : Word) :
    s.carryCalls 3 base x false =
      if (base.toNat + x.toNat) / 256 = base.toNat / 256 then []
      else [s.readCall 3 (s.uncarriedAddr base x)] := by
  by_cases h : (base.toNat + x.toNat) / 256 = base.toNat / 256
  · rw [if_pos h, State.carryCalls, if_neg (by simpa [pageCross_iff] using h)]
  · rw [if_neg h, State.carryCalls, if_pos (by simpa [pageCross_iff] using h)]

/-- The instruction's calls are its fetches, the dummy read where the index leaves the page, and the operand
reads. -/
def ReadsIndexed (s : State) (addr x : Word) (narrow : Bool) (i : Instr) : Prop :=
  ∀ t, exec i s = .next t → ∃ operand : List BusCall,
    operand.length = (if narrow then 1 else 2) ∧
    t.log = s.log ++ s.fetchCalls 3 ++
      (if (addr.toNat + x.toNat) / 256 = addr.toNat / 256 then []
        else [s.readCall 3 (s.uncarriedAddr addr x)]) ++ operand

theorem AppliesRead.readsIndexed {w : State → Width} {op : ReadOp} {i : Instr} {mode : Mode}
    (hf : AppliesRead w op (i, mode)) (hw : FlagWidth w) (hop : KeepsLog op) {s : State} {addr x : Word}
    {narrow : Bool} (hmode : AbsIndexed s addr x mode) (hnarrow : w s = Width.ofFlag narrow) :
    ReadsIndexed s addr x narrow i := by
  intro t hexec
  have hlog := hf.log hw hop hexec
  rw [State.readCalls, hmode, carryCalls_read] at hlog
  refine ⟨_, ?_, by rw [hlog, ← List.append_assoc, ← List.append_assoc]⟩
  rw [length_operandReads, hnarrow]
  cases narrow <;> rfl

/-- Both absolute indexed forms of an accumulator mnemonic. -/
theorem AccForms.Apply.readsIndexed {F : AccForms} {op : ReadOp} (hF : F.Apply op) (hop : KeepsLog op)
    (s : State) (addr : Word) :
    ReadsIndexed s addr s.regs.x s.flags.m (F.absX addr) ∧
      ReadsIndexed s addr s.regs.y s.flags.m (F.absY addr) := by
  obtain ⟨happly, -⟩ := hF
  have hX : AppliesRead State.widthA op (F.absX addr, .abx addr) :=
    happly 0 addr 0 _ (by simp [AccForms.memory])
  have hY : AppliesRead State.widthA op (F.absY addr, .aby addr) :=
    happly 0 addr 0 _ (by simp [AccForms.memory])
  exact ⟨hX.readsIndexed flagWidth_widthA hop (absIndexed_abx s addr) rfl,
    hY.readsIndexed flagWidth_widthA hop (absIndexed_aby s addr) rfl⟩

/-! ### The obligation -/

theorem store_dummyRead {s t : State} {addr x : Word} {f : Instr × Mode} {value : State → Word}
    (hf : AppliesStore State.widthA value f) (hv : CallsKeep value) (hmode : AbsIndexed s addr x f.2)
    (hexec : exec f.1 s = .next t) :
    s.log ++ s.fetchCalls 3 ++ [s.readCall 3 (s.uncarriedAddr addr x)] <+: t.log :=
  (hf.resolvesToWrite flagWidth_widthA hv hexec).dummyRead hmode

theorem modify_dummyRead {s t : State} {addr : Word} {i : Instr} {op : ModifyOp}
    {result : Width → Word → Word → Flags → Word × Flags} (hf : AppliesModify op (i, .abx addr))
    (hop : ModifierResult op result) (hexec : exec i s = .next t) :
    s.log ++ s.fetchCalls 3 ++ [s.readCall 3 (s.uncarriedAddr addr s.regs.x)] <+: t.log :=
  (hf.resolvesToWrite hop hexec).dummyRead (absIndexed_abx s addr)

/-- Settles O56: a write carries always, a read where `pageCross` holds. -/
theorem indexedDummyReads : Obligations.IndexedDummyReads := by
  intro s t addr dummy
  constructor
  · have hX := absIndexed_abx s addr
    have hY := absIndexed_aby s addr
    have sta := sta_applies 0 addr 0
    have hgetA : CallsKeep State.getA := State.getA_afterCalls
    simp only [List.mem_cons, List.not_mem_nil, or_false]
    rintro f (rfl | rfl | rfl | rfl | rfl | rfl | rfl | rfl | rfl)
    exacts [store_dummyRead (sta (.staAbsX addr, .abx addr) (by simp)) hgetA hX,
      store_dummyRead (sta (.staAbsY addr, .aby addr) (by simp)) hgetA hY,
      store_dummyRead (stz_applies 0 addr (.stzAbsX addr, .abx addr) (by simp)) (fun _ _ _ => rfl) hX,
      modify_dummyRead (fun _ => rfl) opAsl_result, modify_dummyRead (fun _ => rfl) opLsr_result,
      modify_dummyRead (fun _ => rfl) opRol_result, modify_dummyRead (fun _ => rfl) opRor_result,
      modify_dummyRead (fun _ => rfl) opInc_result, modify_dummyRead (fun _ => rfl) opDec_result]
  · obtain ⟨ldaX, ldaY⟩ := lda_apply.readsIndexed (fun _ _ _ => setANZ_log _ _ _) s addr
    obtain ⟨oraX, oraY⟩ := ora_apply.readsIndexed (fun _ _ _ => setANZ_log _ _ _) s addr
    obtain ⟨andX, andY⟩ := and_apply.readsIndexed (fun _ _ _ => setANZ_log _ _ _) s addr
    obtain ⟨eorX, eorY⟩ := eor_apply.readsIndexed (fun _ _ _ => setANZ_log _ _ _) s addr
    obtain ⟨adcX, adcY⟩ := adc_apply.readsIndexed (fun _ _ t => setSum_log t _ _) s addr
    obtain ⟨sbcX, sbcY⟩ := sbc_apply.readsIndexed (fun _ _ t => setSum_log t _ _) s addr
    obtain ⟨cmpX, cmpY⟩ := cmp_apply.readsIndexed (fun _ _ _ => rfl) s addr
    have bitX := (bit_applies 0 addr (.bitAbsX addr, .abx addr) (by simp)).readsIndexed flagWidth_widthA
      (fun _ _ _ => rfl) (absIndexed_abx s addr) rfl
    have ldxY := (ldx_applies 0 addr (.ldxAbsY addr, .aby addr) (by simp)).readsIndexed flagWidth_widthX
      (fun _ _ _ => rfl) (absIndexed_aby s addr) rfl
    have ldyX := (ldy_applies 0 addr (.ldyAbsX addr, .abx addr) (by simp)).readsIndexed flagWidth_widthX
      (fun _ _ _ => rfl) (absIndexed_abx s addr) rfl
    simp only [List.mem_cons, List.not_mem_nil, or_false]
    rintro f (rfl | rfl | rfl | rfl | rfl | rfl | rfl | rfl | rfl | rfl | rfl | rfl | rfl | rfl | rfl | rfl | rfl)
    exacts [ldaX t, ldaY t, oraX t, oraY t, andX t, andY t, eorX t, eorY t, adcX t, adcY t, sbcX t, sbcY t,
      cmpX t, cmpY t, bitX t, ldxY t, ldyX t]

end Sys2Proof.Machine
end
